-- ==== Sys2Proof/Word.lean ====
section
/-! DEFINITION. The one word type of the part: the byte of its links and of its light channels. Every other quantity of the manual is a whole number (00_scope, Arithmetic). -/

namespace Sys2Proof

/-- One byte of a link frame (R160), or one channel value of the pattern store (R135). -/
abbrev Byte := BitVec 8

end Sys2Proof
end

