-- ==== Sys2Proof/Syntax.lean ====
section
/-! DEFINITION. The commands and events of spec/opcode_table.json, one constructor per row.

A command that a master sends carries its link, its tag, its unit field and its parameter block as received
(R164), so that every form a frame can carry has a term. An event that happens inside one expiry of a period
carries that period's measurements (log entry 3). -/

namespace Sys2Proof

/-- The three links (Part Overview). -/
inductive Link where
  | p | w | s
  deriving DecidableEq, Repr

/-- The four wheel channels; notices number them 0 to 3 in this order (R49). -/
inductive Wheel where
  | fl | fr | rl | rr
  deriving DecidableEq, Repr

/-- The two steered axles (R71, R76). -/
inductive Axle where
  | front | rear
  deriving DecidableEq, Repr

/-- A direction of the winch line: in toward the drum, or out (R80, R89). -/
inductive LineDir where
  | inward | outward
  deriving DecidableEq, Repr

/-- The readings of the four balance taps above the pack's negative terminal, in mV (R108). -/
structure Taps where
  tap1 : Nat
  tap2 : Nat
  tap3 : Nat
  tap4 : Nat
  deriving DecidableEq, Repr

/-- One command or event of the part. -/
inductive Instr where
  /-- POWER_ON (R184). -/
  | powerOn
  /-- FRAME_RECEIVED (R163): the byte that completes the frame being assembled on the link arrives. -/
  | frameReceived (link : Link) (last : Byte)
  /-- FRAME_BYTE_TIMEOUT (R161). -/
  | frameByteTimeout (link : Link)
  /-- TRANSMIT_FRAME_END (R168). -/
  | transmitFrameEnd (link : Link)
  /-- SILENCE_TIMEOUT (R172). -/
  | silenceTimeout (link : Link)
  /-- UNKNOWN_COMMAND (R5): a command frame whose code is not in the summary table. -/
  | unknownCommand (link : Link) (tag unit code : Byte) (block : List Byte)
  /-- IDENTIFY (R186). -/
  | identify (link : Link) (tag unit : Byte) (block : List Byte)
  /-- CHASSIS_RESET (R185). -/
  | chassisReset (link : Link) (tag unit : Byte) (block : List Byte)
  /-- PROFILE_READ (R176). -/
  | profileRead (link : Link) (tag unit : Byte) (block : List Byte)
  /-- PROFILE_WRITE (R177). -/
  | profileWrite (link : Link) (tag unit : Byte) (block : List Byte)
  /-- PROFILE_COMMIT (R181). -/
  | profileCommit (link : Link) (tag unit : Byte) (block : List Byte)
  /-- COMMIT_WRITE_COMPLETE (R182). -/
  | commitWriteComplete
  /-- SETTLING_END (R180). -/
  | settlingEnd
  /-- PROFILE_RESTORE (R183). -/
  | profileRestore (link : Link) (tag unit : Byte) (block : List Byte)
  /-- LINK_RESET (R21). -/
  | linkReset (link : Link) (tag unit : Byte) (block : List Byte)
  /-- RESERVE (R9). -/
  | reserve (link : Link) (tag unit : Byte) (block : List Byte)
  /-- RELEASE (R11). -/
  | release (link : Link) (tag unit : Byte) (block : List Byte)
  /-- REPORT_SENSE (R15). -/
  | reportSense (link : Link) (tag unit : Byte) (block : List Byte)
  /-- SET_NOTICES (R171). -/
  | setNotices (link : Link) (tag unit : Byte) (block : List Byte)
  /-- DRIVE_SET (R45). -/
  | driveSet (link : Link) (tag unit : Byte) (block : List Byte)
  /-- DRIVE_HOLD (R46). -/
  | driveHold (link : Link) (tag unit : Byte) (block : List Byte)
  /-- REPORT_DRIVE (R47). -/
  | reportDrive (link : Link) (tag unit : Byte) (block : List Byte)
  /-- STEER_SET (R74). -/
  | steerSet (link : Link) (tag unit : Byte) (block : List Byte)
  /-- STEER_MODE (R75). -/
  | steerMode (link : Link) (tag unit : Byte) (block : List Byte)
  /-- STEER_TRIM (R76). -/
  | steerTrim (link : Link) (tag unit : Byte) (block : List Byte)
  /-- REPORT_STEER (R77). -/
  | reportSteer (link : Link) (tag unit : Byte) (block : List Byte)
  /-- WINCH_RUN (R87). -/
  | winchRun (link : Link) (tag unit : Byte) (block : List Byte)
  /-- WINCH_STOP (R88). -/
  | winchStop (link : Link) (tag unit : Byte) (block : List Byte)
  /-- WINCH_TO_LENGTH (R89). -/
  | winchToLength (link : Link) (tag unit : Byte) (block : List Byte)
  /-- WINCH_REFERENCE (R92). -/
  | winchReference (link : Link) (tag unit : Byte) (block : List Byte)
  /-- WINCH_FREE (R97). -/
  | winchFree (link : Link) (tag unit : Byte) (block : List Byte)
  /-- TOW_ASSIST_ON (R102): TOW ASSIST whose first parameter byte is on (1); `extra` is what follows that
  byte, empty in a block of the right length. -/
  | towAssistOn (link : Link) (tag unit : Byte) (extra : List Byte)
  /-- TOW_ASSIST_OFF (R103): TOW ASSIST whose first parameter byte is off (0). -/
  | towAssistOff (link : Link) (tag unit : Byte) (extra : List Byte)
  /-- REPORT_WINCH (R105). -/
  | reportWinch (link : Link) (tag unit : Byte) (block : List Byte)
  /-- LIGHT_WRITE (R136). -/
  | lightWrite (link : Link) (tag unit : Byte) (block : List Byte)
  /-- LIGHT_DEFINE (R139). -/
  | lightDefine (link : Link) (tag unit : Byte) (block : List Byte)
  /-- SHOW_PATTERN (R143). -/
  | showPattern (link : Link) (tag unit : Byte) (block : List Byte)
  /-- OVERLAY_SET (R150). -/
  | overlaySet (link : Link) (tag unit : Byte) (block : List Byte)
  /-- LIGHT_AUTO (R151). -/
  | lightAuto (link : Link) (tag unit : Byte) (block : List Byte)
  /-- REPORT_LIGHTS (R158). -/
  | reportLights (link : Link) (tag unit : Byte) (block : List Byte)
  /-- REPORT_SUPPLY (R120). -/
  | reportSupply (link : Link) (tag unit : Byte) (block : List Byte)
  /-- SUPPLY_CLEAR (R115). -/
  | supplyClear (link : Link) (tag unit : Byte) (block : List Byte)
  /-- STOP_ALL (R20). -/
  | stopAll (link : Link) (tag unit : Byte) (block : List Byte)
  /-- MOTION_PERIOD (R25), with the reading of the servo supply sense in mA (R73). -/
  | motionPeriod (servoSense : Nat)
  /-- SERVO_FRAME (R71). -/
  | servoFrame (axle : Axle)
  /-- REGULATOR_PERIOD (R52), with the signed encoder count of the last 1 ms (R50) and the bridge current
  reading in mA (R51). -/
  | regulatorPeriod (wheel : Wheel) (count : Int) (sense : Nat)
  /-- HOLD_CREEP_EXCEEDED (R56): the regulator period in which it happens. -/
  | holdCreepExceeded (wheel : Wheel) (count : Int) (sense : Nat)
  /-- HOLD_SETTLE_END (R57): the regulator period in which it happens. -/
  | holdSettleEnd (wheel : Wheel) (count : Int) (sense : Nat)
  /-- STALL_TIME_REACHED (R59): the regulator period in which it happens. -/
  | stallTimeReached (wheel : Wheel) (count : Int) (sense : Nat)
  /-- STALL_REST_END (R60): the regulator period in which it happens. -/
  | stallRestEnd (wheel : Wheel) (count : Int) (sense : Nat)
  /-- FAULT_REST_END (R63): the regulator period in which it happens. -/
  | faultRestEnd (wheel : Wheel) (count : Int) (sense : Nat)
  /-- FAULT_WINDOW_CLOSE (R64): the regulator period in which it happens. -/
  | faultWindowClose (wheel : Wheel) (count : Int) (sense : Nat)
  /-- DRUM_COUNT (R80): one drum encoder count. -/
  | drumCount (dir : LineDir)
  /-- WINCH_PERIOD (R81), with the drum current reading in mA. -/
  | winchPeriod (sense : Nat)
  /-- REFERENCE_DETECTED (R93): the winch period in which it happens. -/
  | referenceDetected (sense : Nat)
  /-- REFERENCE_TIMEOUT (R94): the winch period in which it happens. -/
  | referenceTimeout (sense : Nat)
  /-- LOAD_HOLD_ENTRY (R95): the winch period in which it happens. -/
  | loadHoldEntry (sense : Nat)
  /-- SUPPLY_PERIOD (R107), with the tap readings in mV and the signed shunt reading in mA, negative for
  current flowing into the pack (R109). -/
  | supplyPeriod (taps : Taps) (shunt : Int)
  /-- DWELL_DOWN_REACHED (R112): the supply period in which it happens. -/
  | dwellDownReached (taps : Taps) (shunt : Int)
  /-- DWELL_UP_REACHED (R113): the supply period in which it happens. -/
  | dwellUpReached (taps : Taps) (shunt : Int)
  /-- LIGHT_FRAME_BOUNDARY (R141). -/
  | lightFrameBoundary
  /-- PLAYBACK_COUNTDOWN (R140): the light frame boundary in which it happens. -/
  | playbackCountdown
  /-- FADE_END (R146): the light frame boundary in which it happens. -/
  | fadeEnd
  /-- BYTE_RECEIVED (R161): a byte arrives, broken when its stop bit is low (R160). -/
  | byteReceived (link : Link) (byte : Byte) (broken : Bool)
  /-- POWER_LOSS (R182). -/
  | powerLoss
  deriving DecidableEq, Repr

end Sys2Proof
end

