-- ==== Sys2Proof/Config.lean ====
section
/-! DEFINITION. The values the manual leaves open. Each is a constant with no body, so that no proof can rest on what it is. -/

namespace Sys2Proof

/-- FREE VALUE. The stall sign that R59 stores when the stored target is 0 at the entry to STALL, where the
rule names only the sign of the target: `true` for +, `false` for -. Applied to the count of free values
drawn so far (log entry 5). -/
opaque Config.stallSignOfZero : Nat → Bool

/-- FREE VALUE. Whether item `i` of the image (its 87 fields, then its 64 frames, then its 16 records) had
already taken its new contents when power was lost during WRITING (R182: "part of the new contents").
First argument: the count of free values drawn so far (log entry 6). -/
opaque Config.imageItemWritten : Nat → Nat → Bool

/-- FREE VALUE. The check word found in the image after a power loss during WRITING. R182 says only that it
does not match the contents (log entry 6). -/
opaque Config.imageStaleCheck : Nat → BitVec 16

/-- FREE VALUE. What a 4-byte signed field carries for a quantity beyond signed 32 bits, which R166 does not state.
Argument: the quantity (log entry 39). -/
opaque Config.wideField : Int → BitVec 32

/-- FREE VALUE. Whether the notice goes on the line before the status when both become waiting on an idle
transmitter in one event (R168: "If the status is placed first ... If the notice is appended first ..."). Arguments: the link
of the transmitter, the count of free values drawn so far (log entry 4). -/
opaque Config.noticeFirst : Link → Nat → Bool

/-- FREE VALUE. How many of the notices offered before it in one event a notice goes before in a link's queue, where units
or channels offer in one instant and "each port appends them in the order it takes them, either order" (R66, R169).
Arguments: the link, the count of free values drawn so far, the place of the notice among those offered (log entry 11). -/
opaque Config.noticeOrder : Link → Nat → Nat → Nat

end Sys2Proof
end

