-- ==== Sys2Proof/Machine/Arith.lean ====
section
/-! DEFINITION. The integer arithmetic of 00_scope (Arithmetic) and the frame check (R162). -/

namespace Sys2Proof.Machine

/-- "Clamped to a..b": replaced by a when below a and by b when above b. -/
def clampInt (lo hi x : Int) : Int := if x < lo then lo else if hi < x then hi else x

/-- "Clamped to a..b" for quantities that are never negative. -/
def clampNat (lo hi x : Nat) : Nat := if x < lo then lo else if hi < x then hi else x

/-- "Truncated": rounded toward zero. -/
def truncDiv (a b : Int) : Int := Int.tdiv a b

/-- "Rounded": to nearest, halves away from zero, for a positive divisor. -/
def roundDiv (a b : Int) : Int :=
  if a < 0 then -((2 * -a + b) / (2 * b)) else (2 * a + b) / (2 * b)

/-- The magnitude of a quantity. -/
def mag (x : Int) : Int := if x < 0 then -x else x

/-- One shift of the check register toward its high end (R162). -/
def crcShift (r : BitVec 16) : BitVec 16 :=
  if r.msb then (r <<< 1) ^^^ 0x1021#16 else r <<< 1

/-- One byte taken into the check register (R162). -/
def crcByte (r : BitVec 16) (b : Byte) : BitVec 16 :=
  crcShift (crcShift (crcShift (crcShift (crcShift (crcShift (crcShift (crcShift
    (r ^^^ (b.setWidth 16 <<< 8)))))))))

/-- The check of a run of bytes, the register starting at FFFFh (R162). -/
def crc16 (bytes : List Byte) : BitVec 16 := bytes.foldl crcByte 0xFFFF#16

/-- The check as the two bytes a frame carries, high byte first (R162). -/
def checkBytes (bytes : List Byte) : List Byte :=
  [(crc16 bytes >>> 8).setWidth 8, (crc16 bytes).setWidth 8]

end Sys2Proof.Machine
end

