-- ==== Sys2Proof/Machine/Operands.lean ====
section
/-! DEFINITION. The fields of frames: how a parameter is read from its block and how a reply or notice field is written, least significant byte first (R166). -/

namespace Sys2Proof.Machine

/-- The byte that holds a quantity within 0..255 (R166). -/
def byteOf (n : Nat) : Byte := BitVec.ofNat 8 n

/-- A choice, flag or presence marker as its byte (R166). -/
def flagByte (b : Bool) : Byte := if b then 1 else 0

/-- A 2-byte field, least significant byte first (R166). The signed and the unsigned 2-byte fields have the
same bytes, the value taken modulo 65536. -/
def bytes2 (x : Int) : List Byte :=
  [BitVec.ofInt 8 x, BitVec.ofInt 8 (x / 256)]

/-- The layout of a 4-byte signed field, least significant byte first (R166). What is laid out lies within signed 32
bits; a quantity that may lie beyond goes through `field4`. -/
def bytes4 (x : Int) : List Byte :=
  [BitVec.ofInt 8 x, BitVec.ofInt 8 (x / 256), BitVec.ofInt 8 (x / 65536), BitVec.ofInt 8 (x / 16777216)]

/-- Whether a quantity lies within signed 32 bits. -/
def fits32 (x : Int) : Bool := decide (-2147483648 ≤ x) && decide (x ≤ 2147483647)

/-- A 4-byte signed field for a quantity without a bound, a payout in mm (R80, R105): R166 gives no bytes for one
beyond signed 32 bits, which are then a free value (DESIGN CHOICE, log entry 39). -/
def field4 (x : Int) : List Byte := bytes4 (if fits32 x then x else (Config.wideField x).toInt)

/-- Byte `i` of a parameter block, 0 beyond its end (a block of the right length has it, R5). -/
def byteAt (block : List Byte) (i : Nat) : Byte := block.getD i 0

/-- The unsigned 16-bit parameter at byte `i` (R166). -/
def u16At (block : List Byte) (i : Nat) : Nat :=
  (byteAt block i).toNat + 256 * (byteAt block (i + 1)).toNat

/-- The signed 16-bit parameter at byte `i` (R166). -/
def s16At (block : List Byte) (i : Nat) : Int :=
  (BitVec.ofNat 16 (u16At block i)).toInt

/-- The signed 32-bit parameter at byte `i` (R166). -/
def s32At (block : List Byte) (i : Nat) : Int :=
  (BitVec.ofNat 32 (u16At block i + 65536 * u16At block (i + 2))).toInt

end Sys2Proof.Machine
end

