-- ==== Sys2Proof/Machine/Commands.lean ====
section
/-! DEFINITION. The units (R1), the command classes (R2) and the command code summary table (R165). -/

namespace Sys2Proof.Machine

/-- The six units, and the address ALL (R1). -/
inductive UnitId where
  | drive | steer | winch | lights | supply | chassis | all
  deriving DecidableEq, Repr

/-- The unit numbers of R1. -/
def UnitId.number (u : UnitId) : Nat :=
  match u with
  | .drive => 0
  | .steer => 1
  | .winch => 2
  | .lights => 3
  | .supply => 4
  | .chassis => 5
  | .all => 15

/-- The units that can be reserved (R1). -/
def UnitId.reservable (u : UnitId) : Bool :=
  match u with
  | .drive | .steer | .winch | .lights | .chassis => true
  | .supply | .all => false

/-- The reservable unit that a unit field names: 0, 1, 2, 3 or 5 (R1). -/
def reservableUnit (field : Byte) : Option UnitId :=
  [UnitId.drive, .steer, .winch, .lights, .chassis].find? fun u => u.number == field.toNat

/-- The four command classes of R2. -/
inductive CmdClass where
  | read | dispatcher | mutating | stop
  deriving DecidableEq, Repr

/-- The commands of the command code summary table (R165). -/
inductive CmdName where
  | identify
  | chassisReset
  | profileRead
  | profileWrite
  | profileCommit
  | profileRestore
  | linkReset
  | reserve
  | release
  | reportSense
  | setNotices
  | driveSet
  | driveHold
  | reportDrive
  | steerSet
  | steerMode
  | steerTrim
  | reportSteer
  | winchRun
  | winchStop
  | winchToLength
  | winchReference
  | winchFree
  | towAssist
  | reportWinch
  | lightWrite
  | lightDefine
  | showPattern
  | overlaySet
  | lightAuto
  | reportLights
  | reportSupply
  | supplyClear
  | stopAll
  deriving DecidableEq, Repr

/-- One row of the command code summary table: the code, the unit field the command must carry (none for
RESERVE and RELEASE, which name the unit they concern), the class and the length of the parameter block. -/
structure CmdRow where
  code : Byte
  target : Option UnitId
  cls : CmdClass
  length : Nat
  deriving DecidableEq, Repr

/-- The command code summary table (R165). -/
def CmdName.row (n : CmdName) : CmdRow :=
  match n with
  | .identify => ⟨0x01#8, some .chassis, .read, 0⟩
  | .chassisReset => ⟨0x02#8, some .chassis, .mutating, 0⟩
  | .profileRead => ⟨0x03#8, some .chassis, .read, 1⟩
  | .profileWrite => ⟨0x04#8, some .chassis, .mutating, 5⟩
  | .profileCommit => ⟨0x05#8, some .chassis, .mutating, 0⟩
  | .profileRestore => ⟨0x06#8, some .chassis, .mutating, 0⟩
  | .linkReset => ⟨0x07#8, some .chassis, .dispatcher, 0⟩
  | .reserve => ⟨0x10#8, none, .dispatcher, 1⟩
  | .release => ⟨0x11#8, none, .dispatcher, 0⟩
  | .reportSense => ⟨0x12#8, some .chassis, .dispatcher, 0⟩
  | .setNotices => ⟨0x13#8, some .chassis, .dispatcher, 1⟩
  | .driveSet => ⟨0x20#8, some .drive, .mutating, 2⟩
  | .driveHold => ⟨0x21#8, some .drive, .mutating, 0⟩
  | .reportDrive => ⟨0x22#8, some .drive, .read, 0⟩
  | .steerSet => ⟨0x30#8, some .steer, .mutating, 2⟩
  | .steerMode => ⟨0x31#8, some .steer, .mutating, 3⟩
  | .steerTrim => ⟨0x32#8, some .steer, .mutating, 3⟩
  | .reportSteer => ⟨0x33#8, some .steer, .read, 0⟩
  | .winchRun => ⟨0x40#8, some .winch, .mutating, 3⟩
  | .winchStop => ⟨0x41#8, some .winch, .mutating, 0⟩
  | .winchToLength => ⟨0x42#8, some .winch, .mutating, 4⟩
  | .winchReference => ⟨0x43#8, some .winch, .mutating, 0⟩
  | .winchFree => ⟨0x44#8, some .winch, .mutating, 1⟩
  | .towAssist => ⟨0x45#8, some .winch, .mutating, 1⟩
  | .reportWinch => ⟨0x46#8, some .winch, .read, 0⟩
  | .lightWrite => ⟨0x50#8, some .lights, .mutating, 26⟩
  | .lightDefine => ⟨0x51#8, some .lights, .mutating, 6⟩
  | .showPattern => ⟨0x52#8, some .lights, .mutating, 7⟩
  | .overlaySet => ⟨0x53#8, some .lights, .mutating, 2⟩
  | .lightAuto => ⟨0x54#8, some .lights, .mutating, 1⟩
  | .reportLights => ⟨0x55#8, some .lights, .read, 2⟩
  | .reportSupply => ⟨0x60#8, some .supply, .read, 0⟩
  | .supplyClear => ⟨0x61#8, some .supply, .mutating, 0⟩
  | .stopAll => ⟨0x70#8, some .all, .stop, 0⟩

/-- The rows of the summary table, in the order of their codes. -/
def allCommands : List CmdName :=
  [.identify, .chassisReset, .profileRead, .profileWrite, .profileCommit, .profileRestore,
   .linkReset, .reserve, .release, .reportSense, .setNotices, .driveSet,
   .driveHold, .reportDrive, .steerSet, .steerMode, .steerTrim, .reportSteer,
   .winchRun, .winchStop, .winchToLength, .winchReference, .winchFree, .towAssist,
   .reportWinch, .lightWrite, .lightDefine, .showPattern, .overlaySet, .lightAuto,
   .reportLights, .reportSupply, .supplyClear, .stopAll]

/-- The command a code names, if any (R5, R165). -/
def CmdName.ofCode (c : Byte) : Option CmdName :=
  allCommands.find? fun n => n.row.code == c

/-- Whether a unit field fits a command, as R1 lays down. -/
def unitFits (n : CmdName) (field : Byte) : Bool :=
  match n.row.target with
  | some u => u.number == field.toNat
  | none => (reservableUnit field).isSome

/-- Whether every enumerated parameter of a block holds a value of its defined set (R5): choices are off 0 and
on 1 (no 0 and yes 1 for preempt), and the sets of the other parameters are those their rules give. -/
def enumsFit (n : CmdName) (b : List Byte) : Bool :=
  let within (i limit : Nat) : Bool := decide ((byteAt b i).toNat ≤ limit)
  match n with
  | .reserve | .winchFree | .towAssist | .lightAuto => within 0 1
  | .setNotices => within 0 31
  | .steerMode => within 0 3
  | .steerTrim | .winchRun => within 0 1
  | .lightWrite => within 1 1
  | .lightDefine => within 1 1 && within 5 1
  | .showPattern => within 0 1 && within 2 2
  | .overlaySet => within 1 1
  | .reportLights => within 0 4
  | _ => true

/-- Whether a parameter block is well formed for a command: its length and its enumerated parameters (R5). -/
def blockFits (n : CmdName) (b : List Byte) : Bool :=
  b.length == n.row.length && enumsFit n b

end Sys2Proof.Machine
end

