-- ==== Sys2Proof/Machine/Fields.lean ====
section
/-! DEFINITION. The 87 numbered fields of the profile (R175), the working profile that holds them, the clamp of a written value (R177) and the order rules (R178). -/

namespace Sys2Proof.Machine

/-- The profile fields of R175, by name. -/
inductive Field where
  /-- 1: Deadband D. -/
  | deadband
  /-- 2: Lock angle A_lock. -/
  | lockAngle
  /-- 3: Wheelbase W. -/
  | wheelbase
  /-- 4: Track T. -/
  | track
  /-- 5: Full speed V_full. -/
  | fullSpeed
  /-- 6: Ramp step a. -/
  | rampStep
  /-- 7: Brake hold time. -/
  | brakeHoldTime
  /-- 8: Wheel counts per 100 mm. -/
  | wheelCp100
  /-- 9: Tow assist ratio. -/
  | towRatio
  /-- 10: Kp. -/
  | kp
  /-- 11: Ki. -/
  | ki
  /-- 12: Hold creep. -/
  | holdCreep
  /-- 13: Hold duty. -/
  | holdDuty
  /-- 14: Stall duty. -/
  | stallDuty
  /-- 15: Stall speed. -/
  | stallSpeed
  /-- 16: Stall time. -/
  | stallTime
  /-- 17: Stall cap. -/
  | stallCap
  /-- 18: Stall rest. -/
  | stallRest
  /-- 19: Fault trip. -/
  | faultTrip
  /-- 20: Slew step. -/
  | slewStep
  /-- 21: Front trim. -/
  | frontTrim
  /-- 22: Rear trim. -/
  | rearTrim
  /-- 23: Front gain. -/
  | frontGain
  /-- 24: Rear gain. -/
  | rearGain
  /-- 25: Front endpoint min. -/
  | frontMin
  /-- 26: Front endpoint max. -/
  | frontMax
  /-- 27: Rear endpoint min. -/
  | rearMin
  /-- 28: Rear endpoint max. -/
  | rearMax
  /-- 29: Failsafe steering (0 HOLD, 1 CENTRE). -/
  | failsafeSteering
  /-- 30: Drum counts per 100 mm cp100. -/
  | cp100
  /-- 31: Payout limit L_max. -/
  | payoutLimit
  /-- 32: Slow zone. -/
  | slowZone
  /-- 33: Slow speed. -/
  | slowSpeed
  /-- 34: Reference speed. -/
  | referenceSpeed
  /-- 35: Reference current I_ref. -/
  | referenceCurrent
  /-- 36: Load current I_load. -/
  | loadCurrent
  /-- 40: Cell count. -/
  | cellCount
  /-- 41: Cell resistance R_cell. -/
  | cellResistance
  /-- 42: CONSERVE threshold. -/
  | thresholdConserve
  /-- 43: LIMIT threshold. -/
  | thresholdLimit
  /-- 44: CUTOFF threshold. -/
  | thresholdCutoff
  /-- 45: Hysteresis H. -/
  | hysteresis
  /-- 46: Dwell down. -/
  | dwellDown
  /-- 47: Dwell up. -/
  | dwellUp
  /-- 50: Pack current limit I_max. -/
  | packLimit
  /-- 51: Lights floor F_L. -/
  | lightsFloor
  /-- 52: Drive limit lim_D. -/
  | driveLimit
  /-- 53: Winch limit lim_W. -/
  | winchLimit
  /-- 54: Lights limit lim_L. -/
  | lightsLimit
  /-- 55: Governor rise. -/
  | governorRise
  /-- 60: Start-up pattern. -/
  | startPattern
  /-- 61: Indicator threshold. -/
  | indicatorThreshold
  /-- 62: Indicator pattern. -/
  | indicatorPattern
  /-- 63: Brake pattern. -/
  | brakePattern
  /-- 64: Reverse pattern. -/
  | reversePattern
  /-- 65: FAILSAFE alert pattern. -/
  | failsafePattern
  /-- 66: CUTOFF alert pattern. -/
  | cutoffPattern
  /-- 67: LIMIT alert pattern. -/
  | limitPattern
  /-- 68: WINCH_LOAD alert pattern. -/
  | winchLoadPattern
  /-- 69: CONSERVE alert pattern. -/
  | conservePattern
  /-- 70 + channel: Channel full current. -/
  | channelCurrent (channel : Fin 24)
  /-- 100, 101, 102: Silence timeout P, W, S. -/
  | silenceTimeout (link : Link)
  deriving DecidableEq, Repr

/-- A link's place in the order P, W, S, as notices and reports number it from 0 (R105, R170). -/
def linkIndex (l : Link) : Nat :=
  match l with
  | .p => 0
  | .w => 1
  | .s => 2

/-- What R175 gives a field. -/
structure FieldRow where
  number : Nat
  low : Int
  high : Int
  default : Int
  deriving DecidableEq, Repr

/-- The field table of R175. -/
def Field.row (f : Field) : FieldRow :=
  match f with
  | .deadband => ⟨1, 0, 100, 20⟩
  | .lockAngle => ⟨2, 100, 400, 350⟩
  | .wheelbase => ⟨3, 150, 600, 320⟩
  | .track => ⟨4, 120, 400, 250⟩
  | .fullSpeed => ⟨5, 200, 4000, 2000⟩
  | .rampStep => ⟨6, 1, 400, 40⟩
  | .brakeHoldTime => ⟨7, 0, 2000, 500⟩
  | .wheelCp100 => ⟨8, 10, 2000, 180⟩
  | .towRatio => ⟨9, 800, 1200, 1000⟩
  | .kp => ⟨10, 0, 255, 48⟩
  | .ki => ⟨11, 0, 255, 12⟩
  | .holdCreep => ⟨12, 0, 200, 20⟩
  | .holdDuty => ⟨13, 0, 600, 300⟩
  | .stallDuty => ⟨14, 500, 1000, 900⟩
  | .stallSpeed => ⟨15, 0, 500, 100⟩
  | .stallTime => ⟨16, 100, 2000, 400⟩
  | .stallCap => ⟨17, 100, 1000, 450⟩
  | .stallRest => ⟨18, 100, 5000, 800⟩
  | .faultTrip => ⟨19, 5000, 40000, 20000⟩
  | .slewStep => ⟨20, 1, 100, 20⟩
  | .frontTrim => ⟨21, -150, 150, 0⟩
  | .rearTrim => ⟨22, -150, 150, 0⟩
  | .frontGain => ⟨23, 5, 20, 11⟩
  | .rearGain => ⟨24, 5, 20, 11⟩
  | .frontMin => ⟨25, 800, 1500, 1000⟩
  | .frontMax => ⟨26, 1500, 2200, 2000⟩
  | .rearMin => ⟨27, 800, 1500, 1000⟩
  | .rearMax => ⟨28, 1500, 2200, 2000⟩
  | .failsafeSteering => ⟨29, 0, 1, 0⟩
  | .cp100 => ⟨30, 10, 2000, 240⟩
  | .payoutLimit => ⟨31, 500, 30000, 12000⟩
  | .slowZone => ⟨32, 0, 1000, 150⟩
  | .slowSpeed => ⟨33, 50, 500, 200⟩
  | .referenceSpeed => ⟨34, 50, 400, 150⟩
  | .referenceCurrent => ⟨35, 500, 10000, 2500⟩
  | .loadCurrent => ⟨36, 1000, 30000, 12000⟩
  | .cellCount => ⟨40, 2, 4, 3⟩
  | .cellResistance => ⟨41, 0, 50, 8⟩
  | .thresholdConserve => ⟨42, 3400, 3900, 3600⟩
  | .thresholdLimit => ⟨43, 3300, 3800, 3450⟩
  | .thresholdCutoff => ⟨44, 3000, 3600, 3300⟩
  | .hysteresis => ⟨45, 20, 300, 100⟩
  | .dwellDown => ⟨46, 100, 5000, 500⟩
  | .dwellUp => ⟨47, 500, 10000, 2000⟩
  | .packLimit => ⟨50, 5000, 60000, 30000⟩
  | .lightsFloor => ⟨51, 0, 2000, 800⟩
  | .driveLimit => ⟨52, 0, 60000, 25000⟩
  | .winchLimit => ⟨53, 0, 40000, 15000⟩
  | .lightsLimit => ⟨54, 0, 6000, 3000⟩
  | .governorRise => ⟨55, 1, 128, 16⟩
  | .startPattern => ⟨60, 0, 16, 16⟩
  | .indicatorThreshold => ⟨61, 100, 900, 300⟩
  | .indicatorPattern => ⟨62, 0, 16, 16⟩
  | .brakePattern => ⟨63, 0, 16, 16⟩
  | .reversePattern => ⟨64, 0, 16, 16⟩
  | .failsafePattern => ⟨65, 0, 16, 16⟩
  | .cutoffPattern => ⟨66, 0, 16, 16⟩
  | .limitPattern => ⟨67, 0, 16, 16⟩
  | .winchLoadPattern => ⟨68, 0, 16, 16⟩
  | .conservePattern => ⟨69, 0, 16, 16⟩
  | .channelCurrent c => ⟨70 + c.val, 0, 200, 20⟩
  | .silenceTimeout .p => ⟨100, 0, 2000, 250⟩
  | .silenceTimeout .w => ⟨101, 0, 2000, 500⟩
  | .silenceTimeout .s => ⟨102, 0, 2000, 0⟩

/-- The field's place among the 87, in the order of their numbers. -/
def Field.index (f : Field) : Fin 87 :=
  match f with
  | .deadband => 0
  | .lockAngle => 1
  | .wheelbase => 2
  | .track => 3
  | .fullSpeed => 4
  | .rampStep => 5
  | .brakeHoldTime => 6
  | .wheelCp100 => 7
  | .towRatio => 8
  | .kp => 9
  | .ki => 10
  | .holdCreep => 11
  | .holdDuty => 12
  | .stallDuty => 13
  | .stallSpeed => 14
  | .stallTime => 15
  | .stallCap => 16
  | .stallRest => 17
  | .faultTrip => 18
  | .slewStep => 19
  | .frontTrim => 20
  | .rearTrim => 21
  | .frontGain => 22
  | .rearGain => 23
  | .frontMin => 24
  | .frontMax => 25
  | .rearMin => 26
  | .rearMax => 27
  | .failsafeSteering => 28
  | .cp100 => 29
  | .payoutLimit => 30
  | .slowZone => 31
  | .slowSpeed => 32
  | .referenceSpeed => 33
  | .referenceCurrent => 34
  | .loadCurrent => 35
  | .cellCount => 36
  | .cellResistance => 37
  | .thresholdConserve => 38
  | .thresholdLimit => 39
  | .thresholdCutoff => 40
  | .hysteresis => 41
  | .dwellDown => 42
  | .dwellUp => 43
  | .packLimit => 44
  | .lightsFloor => 45
  | .driveLimit => 46
  | .winchLimit => 47
  | .lightsLimit => 48
  | .governorRise => 49
  | .startPattern => 50
  | .indicatorThreshold => 51
  | .indicatorPattern => 52
  | .brakePattern => 53
  | .reversePattern => 54
  | .failsafePattern => 55
  | .cutoffPattern => 56
  | .limitPattern => 57
  | .winchLoadPattern => 58
  | .conservePattern => 59
  | .channelCurrent c => ⟨60 + c.val, by omega⟩
  | .silenceTimeout .p => 84
  | .silenceTimeout .w => 85
  | .silenceTimeout .s => 86

/-- The fields in the order of their numbers (R175). -/
def allFields : List Field :=
  [.deadband, .lockAngle, .wheelbase, .track, .fullSpeed, .rampStep,
   .brakeHoldTime, .wheelCp100, .towRatio, .kp, .ki, .holdCreep,
   .holdDuty, .stallDuty, .stallSpeed, .stallTime, .stallCap, .stallRest,
   .faultTrip, .slewStep, .frontTrim, .rearTrim, .frontGain, .rearGain,
   .frontMin, .frontMax, .rearMin, .rearMax, .failsafeSteering, .cp100,
   .payoutLimit, .slowZone, .slowSpeed, .referenceSpeed, .referenceCurrent, .loadCurrent,
   .cellCount, .cellResistance, .thresholdConserve, .thresholdLimit, .thresholdCutoff, .hysteresis,
   .dwellDown, .dwellUp, .packLimit, .lightsFloor, .driveLimit, .winchLimit,
   .lightsLimit, .governorRise, .startPattern, .indicatorThreshold, .indicatorPattern, .brakePattern,
   .reversePattern, .failsafePattern, .cutoffPattern, .limitPattern, .winchLoadPattern, .conservePattern]
  ++ (List.finRange 24).map .channelCurrent
  ++ [.silenceTimeout .p, .silenceTimeout .w, .silenceTimeout .s]

/-- The field a number names, if any (R175). -/
def Field.ofNumber (n : Nat) : Option Field :=
  allFields.find? fun f => f.row.number == n

/-- The working profile: the values of the 87 fields in the order of their numbers (R175). -/
structure Profile where
  vals : Vector Int 87
  deriving DecidableEq, Repr

/-- The value the profile holds for a field. -/
def Profile.get (p : Profile) (f : Field) : Int := p.vals[f.index]

/-- The value of a field whose range holds no negative value. -/
def Profile.nat (p : Profile) (f : Field) : Nat := (p.get f).toNat

/-- The profile with one field replaced. -/
def Profile.set (p : Profile) (f : Field) (v : Int) : Profile := ⟨p.vals.set f.index v⟩

/-- The built-in defaults of R175. -/
def Profile.defaults : Profile :=
  ⟨⟨(allFields.map fun f => f.row.default).toArray, by simp [allFields]⟩⟩

/-- Step 2 of R177 and R172: the clamp of a written value to its field's range. -/
def clampField (f : Field) (v : Int) : Int :=
  match f with
  | .silenceTimeout _ => if v ≤ 0 then 0 else if v < 50 then 50 else if 2000 < v then 2000 else v
  | _ => clampInt f.row.low f.row.high v

/-- The threshold rule of R178. -/
def thresholdsOrdered (p : Profile) : Bool :=
  decide (p.get .thresholdLimit + 50 ≤ p.get .thresholdConserve)
    && decide (p.get .thresholdCutoff + 50 ≤ p.get .thresholdLimit)

/-- The lights rule of R178: F_L ≤ lim_L. -/
def lightsOrdered (p : Profile) : Bool := decide (p.get .lightsFloor ≤ p.get .lightsLimit)

/-- The winch rule of R178: I_ref ≤ I_load. -/
def currentsOrdered (p : Profile) : Bool := decide (p.get .referenceCurrent ≤ p.get .loadCurrent)

/-- The front endpoint rule of R178. -/
def frontOrdered (p : Profile) : Bool := decide (p.get .frontMin < p.get .frontMax)

/-- The rear endpoint rule of R178. -/
def rearOrdered (p : Profile) : Bool := decide (p.get .rearMin < p.get .rearMax)

/-- Whether a profile keeps the order rules of R178 that concern a field. -/
def orderRulesFor (f : Field) (p : Profile) : Bool :=
  match f with
  | .thresholdConserve | .thresholdLimit | .thresholdCutoff => thresholdsOrdered p
  | .lightsFloor | .lightsLimit => lightsOrdered p
  | .referenceCurrent | .loadCurrent => currentsOrdered p
  | .frontMin | .frontMax => frontOrdered p
  | .rearMin | .rearMax => rearOrdered p
  | _ => true

end Sys2Proof.Machine
end

