-- ==== Sys2Proof/Machine/Tables.lean ====
section
/-! DEFINITION. Small tables with one entry per link, wheel or axle, and how an entry is read and written. -/

namespace Sys2Proof.Machine

/-- One entry for each of the links P, W and S. -/
structure PerLink (α : Type) where
  p : α
  w : α
  s : α
  deriving DecidableEq, Repr

/-- The entry of a link. -/
def PerLink.get {α : Type} (v : PerLink α) (l : Link) : α :=
  match l with
  | .p => v.p
  | .w => v.w
  | .s => v.s

/-- The table with a link's entry replaced. -/
def PerLink.set {α : Type} (v : PerLink α) (l : Link) (x : α) : PerLink α :=
  match l with
  | .p => { v with p := x }
  | .w => { v with w := x }
  | .s => { v with s := x }

/-- Every entry changed by a function of its link. -/
def PerLink.map {α : Type} (v : PerLink α) (f : Link → α → α) : PerLink α :=
  ⟨f .p v.p, f .w v.w, f .s v.s⟩

/-- One entry for each wheel channel. -/
structure PerWheel (α : Type) where
  fl : α
  fr : α
  rl : α
  rr : α
  deriving DecidableEq, Repr

/-- The entry of a wheel. -/
def PerWheel.get {α : Type} (v : PerWheel α) (i : Wheel) : α :=
  match i with
  | .fl => v.fl
  | .fr => v.fr
  | .rl => v.rl
  | .rr => v.rr

/-- The table with a wheel's entry replaced. -/
def PerWheel.set {α : Type} (v : PerWheel α) (i : Wheel) (x : α) : PerWheel α :=
  match i with
  | .fl => { v with fl := x }
  | .fr => { v with fr := x }
  | .rl => { v with rl := x }
  | .rr => { v with rr := x }

/-- Every entry passed through a function. -/
def PerWheel.map {α β : Type} (v : PerWheel α) (f : α → β) : PerWheel β :=
  ⟨f v.fl, f v.fr, f v.rl, f v.rr⟩

/-- The entries in the order FL, FR, RL, RR. -/
def PerWheel.list {α : Type} (v : PerWheel α) : List α := [v.fl, v.fr, v.rl, v.rr]

/-- The four wheels in the order of their numbers (R49). -/
def allWheels : List Wheel := [.fl, .fr, .rl, .rr]

/-- One entry for each axle. -/
structure PerAxle (α : Type) where
  front : α
  rear : α
  deriving DecidableEq, Repr

/-- The entry of an axle. -/
def PerAxle.get {α : Type} (v : PerAxle α) (a : Axle) : α :=
  match a with
  | .front => v.front
  | .rear => v.rear

/-- The table with an axle's entry replaced. -/
def PerAxle.set {α : Type} (v : PerAxle α) (a : Axle) (x : α) : PerAxle α :=
  match a with
  | .front => { v with front := x }
  | .rear => { v with rear := x }

/-- A fixed-length table passed through a function, by way of its list, so that it evaluates. -/
def vecMap {α β : Type} {n : Nat} (f : α → β) (v : Vector α n) : Vector β n :=
  ⟨(v.toList.map f).toArray, by simp⟩

end Sys2Proof.Machine
end

