-- ==== Sys2Proof/Machine/State.lean ====
section
/-! DEFINITION. The state of the part, block by block, as plain data, and its value right after power-on.
Each structure cites the state table of its chapter. Fields that are the model's own are marked so. -/

namespace Sys2Proof.Machine

/-! ## Dispatcher (chapter 1) -/

/-- The attention kinds of R16, in the order of their codes 1 to 6. -/
inductive Attention where
  | restarted | linkReset | reservationLost | stageChanged | profileChanged | failsafe
  deriving DecidableEq, Repr

/-- The details under key ILLEGAL, in the order of their codes 1 to 8 (R13). -/
inductive IllegalDetail where
  | unknownCommand | wrongUnit | badLength | badFrameIndex | patternUndefined | patternRange
  | fieldUnknown | orderViolation
  deriving DecidableEq, Repr

/-- The details under key NOT_READY, in the order of their codes 1 to 3 (R13). -/
inductive NotReadyDetail where
  | unreferenced | cutoff | commitActive
  deriving DecidableEq, Repr

/-- The details under key LIMIT, in the order of their codes 1 and 2 (R13). -/
inductive LimitDetail where
  | payoutMax | loadHold
  deriving DecidableEq, Repr

/-- Key and detail of a sense record (R13). -/
inductive Reason where
  | none
  | attention (kind : Attention)
  | illegal (detail : IllegalDetail)
  | notReady (detail : NotReadyDetail)
  | limit (detail : LimitDetail)
  | cancelled
  | wheelLatched
  deriving DecidableEq, Repr

/-- A sense record (R13): key and detail, the unit field and tag of the command, and the value when present. -/
structure Sense where
  reason : Reason
  unit : Byte
  tag : Byte
  value : Option Int
  deriving DecidableEq, Repr

/-- The sense record of R14 after a reset: key NONE, detail 0, unit 0, tag 0, no value. -/
def Sense.clear : Sense := ⟨.none, 0, 0, none⟩

/-- The kinds of long operation (R17). -/
inductive LongKind where
  | move | reference | fade | fill | commit
  deriving DecidableEq, Repr

/-- A long-operation slot's record (R17). The owner is `none` after the LINK RESET of a commit's owner (R21).
`start` is the model's clock at the acceptance, in ms. -/
structure LongOp where
  kind : LongKind
  owner : Option Link
  tag : Byte
  start : Nat
  deriving DecidableEq, Repr

/-- The results of a long operation, in the order of their codes 0 to 4 (R18). -/
inductive OpResult where
  | good | cancelled | loadLimit | timeout | cutoff
  deriving DecidableEq, Repr

/-- The holders of the reservable units (section 1.3). -/
structure Holders where
  drive : Option Link
  steer : Option Link
  winch : Option Link
  lights : Option Link
  chassis : Option Link
  deriving DecidableEq, Repr

/-- The last commanders of the units that have one (section 1.3, R12). -/
structure LastCommanders where
  drive : Option Link
  steer : Option Link
  winch : Option Link
  lights : Option Link
  deriving DecidableEq, Repr

/-- The dispatcher's records (chapter 1). -/
structure DispatcherState where
  holders : Holders
  last : LastCommanders
  attention : PerLink (List Attention)
  sense : PerLink Sense
  winchOp : Option LongOp
  lightsOp : Option LongOp
  chassisOp : Option LongOp
  deriving DecidableEq, Repr

/-! ## Protection stage (chapter 6), named early because notices carry it -/

/-- The protection stages, mildest first, codes 0 to 3 (chapter 6). -/
inductive Stage where
  | normal | conserve | limit | cutoff
  deriving DecidableEq, Repr

/-- The causes of a stage change, codes 0 to 3 (R118). -/
inductive StageCause where
  | initial | down | up | clear
  deriving DecidableEq, Repr

/-! ## Link ports (chapter 9) -/

/-- The assembly states of R161. -/
inductive Assembly where
  | hunt | length | body | check
  deriving DecidableEq, Repr

/-- A command as a command frame carries it (R164). -/
structure Command where
  tag : Byte
  unit : Byte
  code : Byte
  params : List Byte
  deriving DecidableEq, Repr

/-- The six statuses, codes 0 to 5 (R3). -/
inductive StatusCode where
  | good | accepted | check | attend | busy | conflict
  deriving DecidableEq, Repr

/-- A decided status waiting for the line; its flags byte is filled when it starts (R167). -/
structure StatusFrame where
  tag : Byte
  code : StatusCode
  reply : List Byte
  deriving DecidableEq, Repr

/-- The events of WHEEL notices, codes 0 to 3 (R66). -/
inductive WheelEvent where
  | stallOn | stallOff | fault | faultLatched
  deriving DecidableEq, Repr

/-- The events of WINCH notices, codes 0 to 2 (R101). -/
inductive WinchEvent where
  | limit | load | towEnd
  deriving DecidableEq, Repr

/-- A notice, by kind, with the data R170 lays down for the kind. -/
inductive Notice where
  | done (unit : UnitId) (tag : Byte) (result : OpResult)
  | wheel (wheel : Wheel) (event : WheelEvent) (value : Int)
  | winch (event : WinchEvent) (value : Int)
  | stage (new previous : Stage) (vComp : Nat) (cause : StageCause)
  | failsafe (silent : Link) (affected : Byte)
  deriving DecidableEq, Repr

/-- A frame on the transmit line: its bytes, and whether it is a status frame. -/
structure TxFrame where
  isStatus : Bool
  bytes : List Byte
  deriving DecidableEq, Repr

/-- The link states (R172). -/
inductive LinkState where
  | active | silent
  deriving DecidableEq, Repr

/-- A link port (chapter 9). `silence` is the silence timer, `none` while stopped, else the elapsed ms. `offered` holds the
notices that the event under way has offered to the port and that its end appends to the queue (R169): nothing, between
events. -/
structure Port where
  assembly : Assembly
  buffer : List Byte
  slot : Option Command
  status : Option StatusFrame
  notices : List Notice
  offered : List Notice
  mask : Byte
  framesLost : Bool
  noticesLost : Bool
  tx : Option TxFrame
  silence : Option Nat
  link : LinkState
  failsafeFlag : Bool
  deriving DecidableEq, Repr

/-! ## Motion computer (chapter 2) and wheel channels (chapter 3) -/

/-- The channel states, codes 0 to 5 (R49). -/
inductive ChannelState where
  | hold | holdActive | run | stall | fault | off
  deriving DecidableEq, Repr

/-- A motor bridge's mode: both terminals tied to ground, driven at a duty, or open (R49, R83). -/
inductive Bridge where
  | brake
  | driven (duty : Int)
  | opened
  deriving DecidableEq, Repr

/-- The fault history of a channel; ARMED holds the ms since the fault's entry (R62, R64). -/
inductive FaultHistory where
  | none
  | armed (elapsed : Nat)
  | latched
  deriving DecidableEq, Repr

/-- A wheel channel (chapter 3). `window` holds the 20 latest counts, oldest first. `stallPositive` is the stall
sign. `bridge` is the bridge output as last set. -/
structure Channel where
  state : ChannelState
  target : Int
  m : Int
  window : List Int
  current : Nat
  d : Int
  ePrev : Int
  creep : Nat
  settle : Nat
  stallTimer : Nat
  stallPositive : Bool
  rest : Nat
  history : FaultHistory
  bridge : Bridge
  deriving DecidableEq, Repr

/-- The drive states, codes 0 to 3 (R38). -/
inductive DriveState where
  | holding | driving | towing | safeHold
  deriving DecidableEq, Repr

/-- The motion computer (chapter 2). `gUsed` is the g_D of the latest period and `wheelStates` the channel
states at its end, both for REPORT DRIVE (R47). `brakeTimer` is `none` while stopped, else the elapsed ms. -/
structure Drive where
  state : DriveState
  t : Int
  bCmd : Int
  b : Int
  bLast : Int
  kappa : Int
  fLeft : Int
  fRight : Int
  targets : PerWheel Int
  brakeTimer : Option Nat
  braking : Bool
  reverse : Bool
  gUsed : Nat
  wheelStates : PerWheel ChannelState
  deriving DecidableEq, Repr

/-! ## Steering outputs (chapter 4) -/

/-- The steer modes, codes 0 to 3 (R27). -/
inductive SteerMode where
  | front | rear | counter | crab
  deriving DecidableEq, Repr

/-- The clamp flags, codes 0 to 2 (R72). -/
inductive ClampFlag where
  | none | low | high
  deriving DecidableEq, Repr

/-- The steering outputs (chapter 4); angles in tenths of a degree, pulses in µs, the two latest servo current
samples in mA. -/
structure Steer where
  s : Int
  mode : SteerMode
  r : Nat
  demand : PerAxle Int
  delta : PerAxle Int
  pulse : PerAxle Int
  clamp : PerAxle ClampFlag
  sampleNew : Nat
  sampleOld : Nat
  deriving DecidableEq, Repr

/-! ## Winch (chapter 5) -/

/-- The winch states, codes 0 to 6 (R83). -/
inductive WinchState where
  | idle | runIn | runOut | move | reference | loadHold | free
  deriving DecidableEq, Repr

/-- The limit notes, codes 0 to 2 (R105). -/
inductive LimitNote where
  | none | payoutMax | loadHold
  deriving DecidableEq, Repr

/-- The tow link (section 5.11): its owner and the model's clock at its creation. -/
structure TowLink where
  owner : Link
  created : Nat
  deriving DecidableEq, Repr

/-- The winch (chapter 5). `prevCount` is the payout count at the previous winch period (R81), `bridge` the
bridge output as last set, `gUsed` the g_W of the latest winch period (R105). -/
structure Winch where
  state : WinchState
  referenced : Bool
  count : Int
  prevCount : Int
  speed : Int
  current : Nat
  runSpeed : Nat
  moveTarget : Option Nat
  moveDir : Option LineDir
  duty : Int
  bridge : Bridge
  refTimer : Nat
  loadTimer : Nat
  note : LimitNote
  tow : Option TowLink
  gUsed : Nat
  deriving DecidableEq, Repr

/-! ## Supply monitor (chapter 6) and current allocator (chapter 7) -/

/-- One entry for each of the four cells. -/
structure Cells where
  v1 : Nat
  v2 : Nat
  v3 : Nat
  v4 : Nat
  deriving DecidableEq, Repr

/-- The supply monitor (chapter 6). `countUsed` is the cell count of the latest supply period (R120). -/
structure Supply where
  countUsed : Nat
  cells : Cells
  iPack : Nat
  vMin : Nat
  vComp : Nat
  x : Stage
  stage : Stage
  down : Nat
  candidate : Option Stage
  up : Nat
  initialPending : Bool
  deriving DecidableEq, Repr

/-- The serving orders of R125. -/
inductive ServingOrder where
  | driveFirst | winchFirst
  deriving DecidableEq, Repr

/-- The current allocator (chapter 7). -/
structure Alloc where
  iSteer : Nat
  iD : Nat
  iW : Nat
  iLest : Nat
  iAvail : Nat
  a : Nat
  order : ServingOrder
  capD : Nat
  capW : Nat
  capL : Nat
  usedD : Nat
  usedW : Nat
  gD : Nat
  gW : Nat
  gL : Nat
  deriving DecidableEq, Repr

/-! ## Light engine (chapter 8) -/

/-- One frame of the pattern store: 24 channel values, 255 for PASS (R135). -/
abbrev Frame := Vector Byte 24

/-- A table with one entry per light channel, given by a function of the channel number. -/
def chanVec {α : Type} (f : Nat → α) : Vector α 24 :=
  ⟨((List.range 24).map f).toArray, by simp⟩

/-- The end actions, codes 0 and 1 (R139). -/
inductive EndAction where
  | loop | once
  deriving DecidableEq, Repr

/-- A pattern table record without its open-by field, as the image holds it (R139, R180). -/
structure PatternDef where
  defined : Bool
  first : Nat
  count : Nat
  stepTime : Nat
  action : EndAction
  deriving DecidableEq, Repr

/-- The values R139 gives an undefined record. -/
def PatternDef.undefined : PatternDef := ⟨false, 0, 1, 1, .loop⟩

/-- A pattern table record (R139). -/
structure Record where
  defn : PatternDef
  openBy : Option Link
  deriving DecidableEq, Repr

/-- A light source: a pattern or a level (R142). -/
inductive Source where
  | pattern (number : Nat)
  | level (value : Nat)
  deriving DecidableEq, Repr

/-- A playback: step index and countdown (R140); countdown 0 is a stopped countdown. -/
structure Playback where
  step : Nat
  countdown : Nat
  deriving DecidableEq, Repr

/-- A source with its playback. `fresh` (the model's own) marks a source that is not advanced at the next
step 2, because it starts at that boundary (R140; log entry 16). -/
structure Live where
  source : Source
  play : Playback
  fresh : Bool
  deriving DecidableEq, Repr

/-- The transitions of R143 with the parameters each uses. -/
inductive Transition where
  | cut
  | fade (n : Nat)
  | fill (n : Nat) (fillLevel : Nat)
  deriving DecidableEq, Repr

/-- A staged source (R142). -/
structure Staged where
  source : Source
  startStep : Nat
  transition : Transition
  deriving DecidableEq, Repr

/-- The kinds of fade (R142). -/
inductive FadeKind where
  | fade | fill
  deriving DecidableEq, Repr

/-- A fade (R142). For a FILL the incoming source is not started until the end, at `startStep`. -/
structure Fade where
  kind : FadeKind
  outgoing : Live
  incoming : Live
  startStep : Nat
  n : Nat
  fillLevel : Nat
  k : Nat
  ended : Bool
  deriving DecidableEq, Repr

/-- The BASE record (R142). -/
structure Base where
  live : Live
  staged : Option Staged
  fade : Option Fade
  deriving DecidableEq, Repr

/-- The SIGNAL modes, codes 0 and 1. -/
inductive SignalMode where
  | auto | manual
  deriving DecidableEq, Repr

/-- An automatic SIGNAL source (R149). `pattern` is the pattern field it plays, 16 for none. `rewritten` says that a
write has changed that field since the latest boundary that evaluated the source (R156). -/
structure AutoSource where
  active : Bool
  pattern : Nat
  play : Playback
  rewritten : Bool
  deriving DecidableEq, Repr

/-- The manual overlay (R150). `restart` marks its playback to start at the next boundary. -/
structure Overlay where
  pattern : Option Nat
  mirrored : Bool
  play : Playback
  restart : Bool
  deriving DecidableEq, Repr

/-- The alerts in the order of their rank, codes 1 to 5 (R152, R158). -/
inductive Alert where
  | failsafe | cutoff | limit | winchLoad | conserve
  deriving DecidableEq, Repr

/-- The ALERT layer: the selected alert, the pattern field it plays, and its playback (R152). `rewritten` says that a
write has changed the selected alert's pattern field since the latest boundary (R156). -/
structure AlertLayer where
  selected : Option Alert
  pattern : Nat
  play : Playback
  rewritten : Bool
  deriving DecidableEq, Repr

/-- The activities of the automatic sources as the latest boundary left them, for REPORT LIGHTS (R158). -/
structure SignalShown where
  indicator : Bool
  brake : Bool
  reverse : Bool
  deriving DecidableEq, Repr

/-- The light engine (chapter 8). -/
structure Lights where
  store : Vector Frame 64
  table : Vector Record 16
  base : Base
  mode : SignalMode
  indicator : AutoSource
  brake : AutoSource
  reverse : AutoSource
  mirrored : Bool
  shown : SignalShown
  overlay : Overlay
  alert : AlertLayer
  composed : Vector Nat 24
  outputs : Vector Nat 24
  iLest : Nat
  gUsed : Nat
  deriving DecidableEq, Repr

/-! ## Profile store (chapter 10) -/

/-- What the image holds before its check word (R180). -/
structure ImageContents where
  profile : Profile
  store : Vector Frame 64
  table : Vector PatternDef 16
  deriving DecidableEq, Repr

/-- The nonvolatile image (R180). -/
structure Image where
  contents : ImageContents
  check : BitVec 16
  deriving DecidableEq, Repr

/-- Profile status, codes 0 and 1 (chapter 10). -/
inductive ProfileStatus where
  | loaded | defaults
  deriving DecidableEq, Repr

/-- Image states, codes 0 to 2 (R180, R186). -/
inductive ImageState where
  | ready | writing | settling
  deriving DecidableEq, Repr

/-- The profile store (chapter 10). `changedSince` (the model's own) says whether a change of R179 has been made
since the acceptance of the commit in flight (R182); `settleElapsed` is the time in SETTLING, in ms (R180). -/
structure Chassis where
  profile : Profile
  image : Image
  status : ProfileStatus
  unsaved : Bool
  imageState : ImageState
  snapshot : Option ImageContents
  changedSince : Bool
  settleElapsed : Nat
  deriving DecidableEq, Repr

/-! ## The whole part -/

/-- The state of the part. `pending` is the queue of commands and events that wait (the model's interface).
The model's own fields: `powered` (false between a power loss and the next power-on), `now` (ms since power-on),
`draws` (how many free values have been drawn). -/
structure State where
  pending : List Instr
  powered : Bool
  now : Nat
  draws : Nat
  disp : DispatcherState
  ports : PerLink Port
  drive : Drive
  wheels : PerWheel Channel
  steer : Steer
  winch : Winch
  supply : Supply
  alloc : Alloc
  lights : Lights
  chassis : Chassis
  deriving DecidableEq, Repr

/-- The part never stops with a fault: every command and event of the table has an effect in every state, so
no constructor is needed. (Safe: nothing is left out by a fault.) -/
inductive Fault where
  deriving DecidableEq, Repr

/-- Why a command has no meaning. -/
inductive Refusal where
  /-- Raised by no arm: every row has its meaning. Safe (the model would stop where the part goes on). -/
  | notModelled (mnemonic : String)
  deriving DecidableEq, Repr

/-! ## Values after power-on -/

/-- A dispatcher after a reset (R24): attention queues hold RESTARTED only. -/
def DispatcherState.reset : DispatcherState where
  holders := ⟨none, none, none, none, none⟩
  last := ⟨none, none, none, none⟩
  attention := ⟨[.restarted], [.restarted], [.restarted]⟩
  sense := ⟨.clear, .clear, .clear⟩
  winchOp := none
  lightsOp := none
  chassisOp := none

/-- A port after power-on (R174), with its silence timer as given. -/
def Port.reset (silence : Option Nat) : Port where
  assembly := .hunt
  buffer := []
  slot := none
  status := none
  notices := []
  offered := []
  mask := 0
  framesLost := false
  noticesLost := false
  tx := none
  silence := silence
  link := .active
  failsafeFlag := false

/-- A channel after power-on (R68). The stall sign and the bridge before the first regulator period are not
stated: DESIGN CHOICE + and open (log entry 9). -/
def Channel.reset : Channel where
  state := .hold
  target := 0
  m := 0
  window := List.replicate 20 0
  current := 0
  d := 0
  ePrev := 0
  creep := 0
  settle := 0
  stallTimer := 0
  stallPositive := true
  rest := 0
  history := .none
  bridge := .opened

/-- The motion computer after power-on (R48). -/
def Drive.reset : Drive where
  state := .holding
  t := 0
  bCmd := 0
  b := 0
  bLast := 0
  kappa := 0
  fLeft := 16384
  fRight := 16384
  targets := ⟨0, 0, 0, 0⟩
  brakeTimer := none
  braking := false
  reverse := false
  gUsed := 1024
  wheelStates := ⟨.hold, .hold, .hold, .hold⟩

/-- The steering outputs after power-on (R79), the trims being 0. -/
def Steer.reset : Steer where
  s := 0
  mode := .front
  r := 1000
  demand := ⟨0, 0⟩
  delta := ⟨0, 0⟩
  pulse := ⟨1500, 1500⟩
  clamp := ⟨.none, .none⟩
  sampleNew := 0
  sampleOld := 0

/-- The winch after power-on (R106). The bridge before the first winch period and the g_W used are not stated:
DESIGN CHOICE open and 1024 (log entry 9). -/
def Winch.reset : Winch where
  state := .idle
  referenced := false
  count := 0
  prevCount := 0
  speed := 0
  current := 0
  runSpeed := 0
  moveTarget := none
  moveDir := none
  duty := 0
  bridge := .opened
  refTimer := 0
  loadTimer := 0
  note := .none
  tow := none
  gUsed := 1024

/-- The supply monitor after power-on (R121). The cell count reported before the first supply period is not
stated: DESIGN CHOICE the profile's (log entry 9). -/
def Supply.reset : Supply where
  countUsed := 3
  cells := ⟨0, 0, 0, 0⟩
  iPack := 0
  vMin := 0
  vComp := 0
  x := .normal
  stage := .normal
  down := 0
  candidate := none
  up := 0
  initialPending := true

/-- The current allocator after power-on (R134). -/
def Alloc.reset : Alloc where
  iSteer := 0
  iD := 0
  iW := 0
  iLest := 0
  iAvail := 0
  a := 0
  order := .driveFirst
  capD := 0
  capW := 0
  capL := 0
  usedD := 0
  usedW := 0
  gD := 1024
  gW := 1024
  gL := 1024

/-- A pattern store of zeroed frames (R184). -/
def zeroStore : Vector Frame 64 := Vector.replicate 64 (Vector.replicate 24 0)

/-- A pattern table whose every record is undefined and closed (R184). -/
def emptyTable : Vector Record 16 := Vector.replicate 16 ⟨.undefined, none⟩

/-- The light engine after power-on with no defined pattern (R159). -/
def Lights.reset : Lights where
  store := zeroStore
  table := emptyTable
  base := ⟨⟨.level 0, ⟨0, 0⟩, true⟩, none, none⟩
  mode := .auto
  indicator := ⟨false, 16, ⟨0, 0⟩, false⟩
  brake := ⟨false, 16, ⟨0, 0⟩, false⟩
  reverse := ⟨false, 16, ⟨0, 0⟩, false⟩
  mirrored := false
  shown := ⟨false, false, false⟩
  overlay := ⟨none, false, ⟨0, 0⟩, false⟩
  alert := ⟨none, 16, ⟨0, 0⟩, false⟩
  composed := Vector.replicate 24 0
  outputs := Vector.replicate 24 0
  iLest := 0
  gUsed := 1024

/-- The image of a part that no commit has completed on: all zero, with a check word of 0, which does not
match it. DESIGN CHOICE (log entry 8): the manual gives the image no first contents. -/
def Image.blank : Image where
  contents := ⟨⟨Vector.replicate 87 0⟩, zeroStore, Vector.replicate 16 .undefined⟩
  check := 0

/-- The profile store after a power-on that finds the blank image (R184: check failed). -/
def Chassis.reset : Chassis where
  profile := .defaults
  image := .blank
  status := .defaults
  unsaved := false
  imageState := .ready
  snapshot := none
  changedSince := false
  settleElapsed := 0

/-- The part right after power-on, on a blank image (R184 and the reset rule of each chapter). -/
def State.reset : State where
  pending := []
  powered := true
  now := 0
  draws := 0
  disp := .reset
  ports := ⟨.reset (some 0), .reset (some 0), .reset none⟩
  drive := .reset
  wheels := ⟨.reset, .reset, .reset, .reset⟩
  steer := .reset
  winch := .reset
  supply := .reset
  alloc := .reset
  lights := .reset
  chassis := .reset

end Sys2Proof.Machine
end

