-- ==== Sys2Proof/Decode.lean ====
section
/-! DEFINITION. The command a word spells. The table gives no row a word: a command reaches the part as the bytes of a frame (R161), and an event as no word at all. -/

namespace Sys2Proof

/-- The command that a word of `nbits` bits spells: none, since spec/opcode_table.json gives no row any bits. -/
def decodeTableWord (_nbits _w : Nat) : Option Instr := none

end Sys2Proof
end

