-- ==== Sys2Proof/Machine/Flags.lean ====
section
/-! DEFINITION. The codes of statuses, stages, states and details, the flags byte of a status frame (R164) and the byte of affected units (R170). -/

namespace Sys2Proof.Machine

/-- Attention kind codes (R16). -/
def Attention.code (k : Attention) : Nat :=
  match k with
  | .restarted => 1
  | .linkReset => 2
  | .reservationLost => 3
  | .stageChanged => 4
  | .profileChanged => 5
  | .failsafe => 6

/-- ILLEGAL detail codes (R13). -/
def IllegalDetail.code (d : IllegalDetail) : Nat :=
  match d with
  | .unknownCommand => 1
  | .wrongUnit => 2
  | .badLength => 3
  | .badFrameIndex => 4
  | .patternUndefined => 5
  | .patternRange => 6
  | .fieldUnknown => 7
  | .orderViolation => 8

/-- Key codes (R13). -/
def Reason.keyCode (r : Reason) : Nat :=
  match r with
  | .none => 0
  | .attention _ => 1
  | .illegal _ => 2
  | .notReady _ => 3
  | .limit _ => 4
  | .cancelled => 5
  | .wheelLatched => 6

/-- Detail codes under each key (R13). -/
def Reason.detailCode (r : Reason) : Nat :=
  match r with
  | .none => 0
  | .attention k => k.code
  | .illegal d => d.code
  | .notReady .unreferenced => 1
  | .notReady .cutoff => 2
  | .notReady .commitActive => 3
  | .limit .payoutMax => 1
  | .limit .loadHold => 2
  | .cancelled => 1
  | .wheelLatched => 1

/-- Status codes (R3). -/
def StatusCode.code (c : StatusCode) : Nat :=
  match c with
  | .good => 0
  | .accepted => 1
  | .check => 2
  | .attend => 3
  | .busy => 4
  | .conflict => 5

/-- Result codes of a DONE notice (R18). -/
def OpResult.code (r : OpResult) : Nat :=
  match r with
  | .good => 0
  | .cancelled => 1
  | .loadLimit => 2
  | .timeout => 3
  | .cutoff => 4

/-- Stage codes, which also rank the stages from mildest to most severe (chapter 6). -/
def Stage.code (s : Stage) : Nat :=
  match s with
  | .normal => 0
  | .conserve => 1
  | .limit => 2
  | .cutoff => 3

/-- Stage change causes (R118). -/
def StageCause.code (c : StageCause) : Nat :=
  match c with
  | .initial => 0
  | .down => 1
  | .up => 2
  | .clear => 3

/-- Wheel numbers (R49). -/
def wheelNumber (w : Wheel) : Nat :=
  match w with
  | .fl => 0
  | .fr => 1
  | .rl => 2
  | .rr => 3

/-- WHEEL notice event codes (R66). -/
def WheelEvent.code (e : WheelEvent) : Nat :=
  match e with
  | .stallOn => 0
  | .stallOff => 1
  | .fault => 2
  | .faultLatched => 3

/-- WINCH notice event codes (R101). -/
def WinchEvent.code (e : WinchEvent) : Nat :=
  match e with
  | .limit => 0
  | .load => 1
  | .towEnd => 2

/-- Channel state codes (R49). -/
def ChannelState.code (c : ChannelState) : Nat :=
  match c with
  | .hold => 0
  | .holdActive => 1
  | .run => 2
  | .stall => 3
  | .fault => 4
  | .off => 5

/-- Drive state codes (R38). -/
def DriveState.code (d : DriveState) : Nat :=
  match d with
  | .holding => 0
  | .driving => 1
  | .towing => 2
  | .safeHold => 3

/-- Steer mode codes (R75). -/
def SteerMode.code (m : SteerMode) : Nat :=
  match m with
  | .front => 0
  | .rear => 1
  | .counter => 2
  | .crab => 3

/-- The steer mode a code names; a code outside the set is stopped at validity (R5). -/
def steerModeOf (n : Nat) : SteerMode :=
  match n with
  | 0 => .front
  | 1 => .rear
  | 2 => .counter
  | _ => .crab

/-- Clamp flag codes (R77). -/
def ClampFlag.code (c : ClampFlag) : Nat :=
  match c with
  | .none => 0
  | .low => 1
  | .high => 2

/-- Winch state codes (R83). -/
def WinchState.code (w : WinchState) : Nat :=
  match w with
  | .idle => 0
  | .runIn => 1
  | .runOut => 2
  | .move => 3
  | .reference => 4
  | .loadHold => 5
  | .free => 6

/-- Limit note codes (R105). -/
def LimitNote.code (n : LimitNote) : Nat :=
  match n with
  | .none => 0
  | .payoutMax => 1
  | .loadHold => 2

/-- Line directions: IN 0, OUT 1 (R87, R105). -/
def lineDirCode (d : LineDir) : Nat :=
  match d with
  | .inward => 0
  | .outward => 1

/-- A master or none: 0 none, 1 P, 2 W, 3 S (R15, R158). -/
def masterCode (m : Option Link) : Nat :=
  match m with
  | none => 0
  | some l => linkIndex l + 1

/-- Selected alert codes, 0 for none (R158). -/
def alertCode (a : Option Alert) : Nat :=
  match a with
  | none => 0
  | some .failsafe => 1
  | some .cutoff => 2
  | some .limit => 3
  | some .winchLoad => 4
  | some .conserve => 5

/-- End action codes (R139). -/
def EndAction.code (e : EndAction) : Nat :=
  match e with
  | .loop => 0
  | .once => 1

/-- Profile status codes (R186). -/
def ProfileStatus.code (p : ProfileStatus) : Nat :=
  match p with
  | .loaded => 0
  | .defaults => 1

/-- Image state codes (R186). -/
def ImageState.code (i : ImageState) : Nat :=
  match i with
  | .ready => 0
  | .writing => 1
  | .settling => 2

/-- The flags byte of a status frame: bit 0 frames-lost, bit 1 notices-lost, bits 2 and 3 the stage (R164). -/
def statusFlags (framesLost noticesLost : Bool) (stage : Stage) : Byte :=
  byteOf ((if framesLost then 1 else 0) + (if noticesLost then 2 else 0) + 4 * stage.code)

/-- The affected units of a FAILSAFE notice: bit 0 DRIVE, 1 STEER, 2 WINCH, 3 LIGHTS (R170). -/
def affectedByte (drive steer winch lights : Bool) : Byte :=
  byteOf ((if drive then 1 else 0) + (if steer then 2 else 0) + (if winch then 4 else 0)
    + (if lights then 8 else 0))

/-- Notice kind codes (R170). -/
def Notice.kindCode (n : Notice) : Nat :=
  match n with
  | .done _ _ _ => 0
  | .wheel _ _ _ => 1
  | .winch _ _ => 2
  | .stage _ _ _ _ => 3
  | .failsafe _ _ => 4

/-- Whether a notice mask selects a notice's kind: bit k for the kind of code k (R171). -/
def maskSelects (mask : Byte) (n : Notice) : Bool := mask.getLsbD n.kindCode

end Sys2Proof.Machine
end

