-- ==== Sys2Proof/Machine/Frames.lean ====
section
/-! DEFINITION. The three frame layouts (R164) and what each notice carries (R170), as bytes. -/

namespace Sys2Proof.Machine

/-- A whole frame around a body: sync, length, body, check high byte first (R161, R162, R164). -/
def frameOf (body : List Byte) : List Byte :=
  let covered := byteOf body.length :: body
  0xC5#8 :: (covered ++ checkBytes covered)

/-- A status frame: kind 2, tag, status, flags, reply (R164). -/
def statusBytes (st : StatusFrame) (flags : Byte) : List Byte :=
  frameOf ([2, st.tag, byteOf st.code.code, flags] ++ st.reply)

/-- The unit field of a notice (R170). -/
def Notice.unitCode (n : Notice) : Nat :=
  match n with
  | .done u _ _ => u.number
  | .wheel _ _ _ => UnitId.drive.number
  | .winch _ _ => UnitId.winch.number
  | .stage _ _ _ _ => UnitId.supply.number
  | .failsafe _ _ => UnitId.all.number

/-- The tag field of a notice: the operation's for DONE, 0 otherwise (R170). -/
def Notice.tagByte (n : Notice) : Byte :=
  match n with
  | .done _ t _ => t
  | .wheel _ _ _ | .winch _ _ | .stage _ _ _ _ | .failsafe _ _ => 0

/-- The data fields of a notice (R66, R101, R118, R170). -/
def Notice.data (n : Notice) : List Byte :=
  match n with
  | .done _ _ r => [byteOf r.code]
  | .wheel w e v => [byteOf (wheelNumber w), byteOf e.code] ++ bytes4 v
  | .winch e v => byteOf e.code :: field4 v
  | .stage new prev v c => [byteOf new.code, byteOf prev.code] ++ bytes2 v ++ [byteOf c.code]
  | .failsafe l units => [byteOf (linkIndex l), units]

/-- A notice frame: kind 3, notice kind, unit, tag, data (R164). -/
def noticeBytes (n : Notice) : List Byte :=
  frameOf ([3, byteOf n.kindCode, byteOf n.unitCode, n.tagByte] ++ n.data)

/-- The check of a received frame: its length byte and body against the two check bytes at the end of the
assembly buffer (R163). -/
def frameGood (buffer : List Byte) : Bool :=
  let covered := buffer.take (buffer.length - 2)
  checkBytes covered == buffer.drop (buffer.length - 2)

/-- The body of a received frame, from the kind byte through the last data byte (R164). -/
def frameBody (buffer : List Byte) : List Byte :=
  (buffer.take (buffer.length - 2)).drop 1

/-- The command a body of kind 1 carries: tag, unit, code, then the parameter block (R164). -/
def commandOf (body : List Byte) : Command :=
  ⟨byteAt body 1, byteAt body 2, byteAt body 3, body.drop 4⟩

end Sys2Proof.Machine
end

