-- ==== Sys2Proof/Machine/Ops.lean ====
section
/-! DEFINITION. The named operations over the dispatcher's records and the link ports: posting attention, writing sense, offering notices, ending long operations, starting frames. -/

namespace Sys2Proof.Machine

/-! ## Records of the dispatcher -/

/-- The holder of a unit, none for a unit that cannot be reserved (section 1.3). -/
def Holders.get (h : Holders) (u : UnitId) : Option Link :=
  match u with
  | .drive => h.drive
  | .steer => h.steer
  | .winch => h.winch
  | .lights => h.lights
  | .chassis => h.chassis
  | .supply | .all => none

/-- The reservation table with a unit's holder replaced. -/
def Holders.set (h : Holders) (u : UnitId) (m : Option Link) : Holders :=
  match u with
  | .drive => { h with drive := m }
  | .steer => { h with steer := m }
  | .winch => { h with winch := m }
  | .lights => { h with lights := m }
  | .chassis => { h with chassis := m }
  | .supply | .all => h

/-- Every reservation of a link released (R21). -/
def Holders.releaseAll (h : Holders) (l : Link) : Holders :=
  let f (m : Option Link) : Option Link := if m = some l then none else m
  ⟨f h.drive, f h.steer, f h.winch, f h.lights, f h.chassis⟩

/-- The last commander of a unit, none for a unit without one (R12). -/
def LastCommanders.get (c : LastCommanders) (u : UnitId) : Option Link :=
  match u with
  | .drive => c.drive
  | .steer => c.steer
  | .winch => c.winch
  | .lights => c.lights
  | .supply | .chassis | .all => none

/-- A unit's last commander set; SUPPLY and CHASSIS have none (R12). -/
def LastCommanders.set (c : LastCommanders) (u : UnitId) (l : Link) : LastCommanders :=
  match u with
  | .drive => { c with drive := some l }
  | .steer => { c with steer := some l }
  | .winch => { c with winch := some l }
  | .lights => { c with lights := some l }
  | .supply | .chassis | .all => c

/-- Every last commander that names a link set to none (R21). -/
def LastCommanders.forget (c : LastCommanders) (l : Link) : LastCommanders :=
  let f (m : Option Link) : Option Link := if m = some l then none else m
  ⟨f c.drive, f c.steer, f c.winch, f c.lights⟩

/-- The long-operation slot of a unit (R17). -/
def DispatcherState.op (d : DispatcherState) (u : UnitId) : Option LongOp :=
  match u with
  | .winch => d.winchOp
  | .lights => d.lightsOp
  | .chassis => d.chassisOp
  | .drive | .steer | .supply | .all => none

/-- The dispatcher with a unit's slot replaced (R17). -/
def DispatcherState.setOp (d : DispatcherState) (u : UnitId) (o : Option LongOp) : DispatcherState :=
  match u with
  | .winch => { d with winchOp := o }
  | .lights => { d with lightsOp := o }
  | .chassis => { d with chassisOp := o }
  | .drive | .steer | .supply | .all => d

/-- A kind appended at the tail of an attention queue unless the queue holds it (R16). -/
def postKind (k : Attention) (q : List Attention) : List Attention :=
  if q.contains k then q else q ++ [k]

/-- A kind posted to one master (R16). -/
def postTo (k : Attention) (l : Link) (s : State) : State :=
  { s with disp := { s.disp with attention := s.disp.attention.set l (postKind k (s.disp.attention.get l)) } }

/-- A kind posted to all three masters (R16). -/
def postAll (k : Attention) (s : State) : State :=
  { s with disp := { s.disp with attention := s.disp.attention.map fun _ q => postKind k q } }

/-- A kind posted to the two masters other than one (R16). -/
def postOthers (k : Attention) (l : Link) (s : State) : State :=
  { s with disp := { s.disp with
      attention := s.disp.attention.map fun i q => if i = l then q else postKind k q } }

/-- A master's sense record overwritten in full (R14). -/
def writeSense (l : Link) (x : Sense) (s : State) : State :=
  { s with disp := { s.disp with sense := s.disp.sense.set l x } }

/-! ## Ports and notices -/

/-- One port replaced. -/
def setPort (l : Link) (q : Port) (s : State) : State :=
  { s with ports := s.ports.set l q }

/-- A notice appended at the tail of a port's queue, or dropped with notices-lost set when the queue holds
8 (R169). -/
def Port.append (q : Port) (n : Notice) : Port :=
  if q.notices.length < 8 then { q with notices := q.notices ++ [n] } else { q with noticesLost := true }

/-- A notice put among those the event has offered to the port. -/
def Port.hand (q : Port) (n : Notice) : Port := { q with offered := q.offered ++ [n] }

/-- A notice offered to one port, kept when its mask selects the kind (R169). -/
def Port.offer (q : Port) (n : Notice) : Port :=
  if maskSelects q.mask n then q.hand n else q

/-- A notice offered to all three links (R169). -/
def offer (n : Notice) (s : State) : State :=
  { s with ports := s.ports.map fun _ q => q.offer n }

/-- Notices offered one after the other. -/
def offerList (ns : List Notice) (s : State) : State := ns.foldl (fun s n => offer n s) s

/-- A DONE notice handed to its owner's port whatever the mask, none when there is no owner (R18, R169). -/
def handDone (u : UnitId) (op : LongOp) (r : OpResult) (s : State) : State :=
  match op.owner with
  | some l => setPort l ((s.ports.get l).hand (.done u op.tag r)) s
  | none => s

/-- The end of the long operation in a unit's slot: its DONE, and the slot emptied (R18). -/
def endOp (u : UnitId) (r : OpResult) (s : State) : State :=
  match s.disp.op u with
  | some op => let s := handDone u op r s
               { s with disp := s.disp.setOp u none }
  | none => s

/-- A unit's slot emptied without a DONE (R21, R24). -/
def dropOp (u : UnitId) (s : State) : State := { s with disp := s.disp.setOp u none }

/-- Who offers a notice: the unit of R170's table, a wheel channel by itself (R66), a DONE being its operation's unit's
(R18; log entry 11). -/
def Notice.source (n : Notice) : UnitId × Option Wheel :=
  match n with
  | .done u _ _ => (u, none)
  | .wheel w _ _ => (.drive, some w)
  | .winch _ _ => (.winch, none)
  | .stage _ _ _ _ => (.supply, none)
  | .failsafe _ _ => (.all, none)

/-- A notice put before up to `k` of the notices taken last, the latest first in the list; it passes none of its own
source (R62, R101, R104). -/
def slip (n : Notice) (k : Nat) (latest : List Notice) : List Notice :=
  match latest with
  | [] => [n]
  | x :: xs => if x.source = n.source ∨ k = 0 then n :: x :: xs else x :: slip n (k - 1) xs

/-- Notices put one by one into those taken so far; `pass i` is how many the notice at place `i` may pass. -/
def arrangeFrom (pass : Nat → Nat) (i : Nat) (latest ns : List Notice) : List Notice :=
  match ns with
  | [] => latest.reverse
  | n :: rest => arrangeFrom pass (i + 1) (slip n (pass i) latest) rest

/-- The notices of one event in the order a port takes them: those of one source as offered, those of different sources
in either order (R66, R169). -/
def arrange (pass : Nat → Nat) (ns : List Notice) : List Notice := arrangeFrom pass 0 [] ns

/-- The notices of the event appended to the queue in the order the port takes them (R169). -/
def Port.queueOffered (pass : Nat → Nat) (q : Port) : Port :=
  (arrange pass q.offered).foldl Port.append { q with offered := [] }

/-- Whether the order of the notices of the event may be open at a port. -/
def Port.orderOpen (q : Port) : Bool := decide (2 ≤ q.offered.length)

/-- A port's transmit arbiter while the transmitter is free: the waiting status with its flags filled and the
lost flags cleared, else the oldest notice (R167, R168). -/
def Port.startNext (stage : Stage) (q : Port) : Port :=
  match q.tx with
  | some _ => q
  | none =>
    match q.status with
    | some st => { q with
        status := none
        framesLost := false
        noticesLost := false
        tx := some ⟨true, statusBytes st (statusFlags q.framesLost q.noticesLost stage)⟩ }
    | none =>
      match q.notices with
      | n :: rest => { q with notices := rest, tx := some ⟨false, noticeBytes n⟩ }
      | [] => q

/-- The oldest notice of a port started on its line (R168). -/
def Port.startNotice (q : Port) : Port :=
  match q.notices with
  | n :: rest => { q with notices := rest, tx := some ⟨false, noticeBytes n⟩ }
  | [] => q

/-- Whether a status and a notice both wait on an idle transmitter: at the end of an event, that both became
waiting in it (R168). -/
def Port.raced (q : Port) : Bool := q.tx.isNone && q.status.isSome && !q.notices.isEmpty

/-- A port's transmit arbiter at the end of an event: where a status and a notice became waiting in it, either may
go first (R168; log entry 4). -/
def Port.arbitrate (noticeFirst : Bool) (stage : Stage) (q : Port) : Port :=
  if q.raced && noticeFirst then q.startNotice else q.startNext stage

/-- A port at the end of an event: its notices join the queue, and then its arbiter acts (R168, R169). Arguments: the
order of the notices, whether a notice goes before a status that races it. -/
def Port.endEvent (pass : Nat → Nat) (noticeFirst : Bool) (stage : Stage) (q : Port) : Port :=
  (q.queueOffered pass).arbitrate noticeFirst stage

/-- Whether an order is left open at a port at the end of an event: that of its notices, or that of a status and a notice
(R168, R169). -/
def Port.drawn (pass : Nat → Nat) (q : Port) : Bool := q.orderOpen || (q.queueOffered pass).raced

/-- Whether an order is left open at some port at the end of an event. -/
def anyDrawn (s : State) : Bool :=
  (s.ports.p.drawn (Config.noticeOrder .p s.draws)) || (s.ports.w.drawn (Config.noticeOrder .w s.draws))
    || (s.ports.s.drawn (Config.noticeOrder .s s.draws))

/-- The three ports at the end of an event: the notices of the event queued and the next frames started, an open order
taken from a free value (R168, R169; log entries 4 and 11). -/
def arbitrate (s : State) : State :=
  { s with
    ports := s.ports.map fun l q =>
      q.endEvent (Config.noticeOrder l s.draws) (Config.noticeFirst l s.draws) s.supply.stage
    draws := if anyDrawn s then s.draws + 1 else s.draws }

/-- An event of the running part: its effect, and then the frames it made ready started. A part without power
takes no event (log entry 2). -/
def event (f : State → State) (s : State) : Host.Outcome State Fault Refusal :=
  .next (if s.powered then arbitrate (f s) else s)

/-- An event that names one outcome `h` of a period: the period in which that outcome comes about. Where the
period would not bring it about, the event does not occur and nothing changes (log entry 3). -/
def eventWhen {α : Type} [DecidableEq α] (h : α) (f : State → State × List α) (s : State) : State :=
  if h ∈ (f s).2 then (f s).1 else s

end Sys2Proof.Machine
end

