-- ==== Sys2Proof/Machine/LightEngine.lean ====
section
/-! DEFINITION. The light engine (chapter 8): the pattern store and table, playback, the BASE record, the three layers, composition, estimate and dimming. -/

namespace Sys2Proof.Machine

/-- What a light frame boundary can bring about, for the rows that name it (R140, R146). -/
inductive LightHappening where
  | countdownReached | fadeEnded
  deriving DecidableEq, Repr

/-- The channel value PASS (R135). -/
def passValue : Nat := 255

/-! ## Records and frames -/

/-- The record of a pattern number; a number outside the table names no pattern (R139). -/
def Lights.record (x : Lights) (n : Nat) : Record := x.table[n]?.getD ⟨.undefined, none⟩

/-- The definition of a pattern number. -/
def Lights.defn (x : Lights) (n : Nat) : PatternDef := (x.record n).defn

/-- The frame of a frame number (R136). -/
def Lights.frame (x : Lights) (n : Nat) : Frame := x.store[n]?.getD (Vector.replicate 24 0xFF#8)

/-- A frame's value for a channel. -/
def frameValue (f : Frame) (ch : Nat) : Nat := (f[ch]?.getD 0xFF#8).toNat

/-- Whether a defined pattern's frames include a frame (R136, R137). -/
def PatternDef.includes (d : PatternDef) (frame : Nat) : Bool :=
  d.defined && decide (d.first ≤ frame) && decide (frame < d.first + d.count)

/-- Every record's open-by passed through a function of the record. -/
def mapOpen (f : Record → Option Link) (t : Vector Record 16) : Vector Record 16 :=
  vecMap (fun r => { r with openBy := f r }) t

/-- The open-by fields that name a link set to none (R21, R22, R138). -/
def closeLink (l : Link) (x : Lights) : Lights :=
  { x with table := mapOpen (fun r => if r.openBy = some l then none else r.openBy) x.table }

/-- The open marking of R137 for a record that includes the written frame. -/
def openAfterWrite (more : Bool) (l : Link) (before : Option Link) : Option Link :=
  if more then some l else if before = some l then none else before

/-- A frame written, with the open marking of R137. -/
def writeFrame (l : Link) (index : Nat) (more : Bool) (values : Frame) (x : Lights) : Lights :=
  { x with
    store := x.store.setIfInBounds index values
    table := mapOpen (fun r => if r.defn.includes index then openAfterWrite more l r.openBy else r.openBy) x.table }

/-- The number of defined patterns whose frames include a frame (R136). -/
def includingCount (index : Nat) (x : Lights) : Nat :=
  (x.table.toList.filter fun r => r.defn.includes index).length

/-- A record replaced. -/
def setRecord (n : Nat) (r : Record) (x : Lights) : Lights := { x with table := x.table.setIfInBounds n r }

/-! ## Playback (R140) -/

/-- A playback started at a step of a record (R140). -/
def Playback.start (d : PatternDef) (step : Nat) : Playback := ⟨min step (d.count - 1), d.stepTime⟩

/-- The end of a pattern at a countdown: LOOP goes to step 0, ONCE holds the last frame with the countdown
stopped (R140). A stopped countdown reads 0 (DESIGN CHOICE, log entry 47). -/
def Playback.atEnd (d : PatternDef) (countdown : Nat) : Playback :=
  match d.action with
  | .loop => ⟨0, countdown⟩
  | .once => ⟨d.count - 1, 0⟩

/-- A playback brought in line with a record that has changed under it (R140, record changed). -/
def Playback.conform (d : PatternDef) (y : Playback) : Playback :=
  let y := if d.count ≤ y.step then Playback.atEnd d y.countdown else y
  { y with countdown := min y.countdown d.stepTime }

/-- One advance of a playback, and whether its countdown reached 0 (R140). A stopped countdown stays stopped. -/
def Playback.advance (d : PatternDef) (y : Playback) : Playback × Bool :=
  if d.defined then
    let y := y.conform d
    if y.countdown = 0 then (y, false)
    else if y.countdown = 1 then
      (if y.step + 1 < d.count then ⟨y.step + 1, d.stepTime⟩ else Playback.atEnd d d.stepTime, true)
    else (⟨y.step, y.countdown - 1⟩, false)
  else (⟨0, y.countdown⟩, false)

/-- A source started at a step, not to be advanced at the step 2 that follows when `fresh` (R140, R145). -/
def Live.start (x : Lights) (src : Source) (step : Nat) (fresh : Bool) : Live :=
  match src with
  | .pattern n => ⟨src, Playback.start (x.defn n) step, fresh⟩
  | .level _ => ⟨src, ⟨0, 0⟩, fresh⟩

/-- The advance of a BASE source at step 2 (R140, R141). A fresh source is not advanced but starts at its step, from
its record as it stands at this boundary. For one started at step 1 that changes nothing, since no record changes
within a boundary; for the start-up source it is where its countdown is loaded (DEDUCED, log entry 16). -/
def Live.advance (x : Lights) (v : Live) : Live × Bool :=
  if v.fresh then (Live.start x v.source v.play.step false, false)
  else match v.source with
    | .pattern n =>
      let r := v.play.advance (x.defn n)
      ({ v with play := r.1 }, r.2)
    | .level _ => (v, false)

/-- A pattern's value for a channel at a playback, PASS when undefined (R139, R140). -/
def patternValue (x : Lights) (n : Nat) (y : Playback) (ch : Nat) : Nat :=
  let d := x.defn n
  if d.defined then frameValue (x.frame (d.first + y.step)) ch else passValue

/-- A source's BASE value for a channel: a PASS counts as 0 (R142). -/
def Live.value (x : Lights) (v : Live) (ch : Nat) : Nat :=
  match v.source with
  | .pattern n =>
    let y := patternValue x n v.play ch
    if y = passValue then 0 else y
  | .level y => y

/-! ## The BASE record: steps 1, 2 and 3 of R141 -/

/-- Step 1, first part: a fade marked ended is finished (R145). -/
def finishEnded (x : Lights) : Lights :=
  match x.base.fade with
  | some f =>
    if f.ended then
      let live := match f.kind with
        | .fade => f.incoming
        | .fill => Live.start x f.incoming.source f.startStep true
      { x with base := { x.base with live := live, fade := none } }
    else x
  | none => x

/-- Whether the staged source's pattern is open (R145). -/
def stagedOpen (x : Lights) (g : Staged) : Bool :=
  match g.source with
  | .pattern n => (x.record n).openBy.isSome
  | .level _ => false

/-- The switch of a staged source, by transition (R145). What the live source is while a fade is present is not
stated: it stays the old source with its playback as at the switch, and only the fade's outgoing copy plays on
(DESIGN CHOICE, log entry 42). -/
def switchStaged (x : Lights) (g : Staged) : Lights :=
  let started := Live.start x g.source g.startStep true
  match g.transition with
  | .cut => { x with base := { x.base with live := started, staged := none } }
  | .fade n =>
    let f : Fade := ⟨.fade, x.base.live, started, g.startStep, n, 0, 0, false⟩
    { x with base := { x.base with staged := none, fade := some f } }
  | .fill n level =>
    let f : Fade := ⟨.fill, x.base.live, ⟨g.source, ⟨0, 0⟩, false⟩, g.startStep, n, level, 0, false⟩
    { x with base := { x.base with staged := none, fade := some f } }

/-- Step 1: an ended fade finished, then the staged source switched unless its pattern is open (R145). -/
def switchStep (x : Lights) : Lights :=
  let x := finishEnded x
  match x.base.staged with
  | some g => if stagedOpen x g then x else switchStaged x g
  | none => x

/-- Step 2 for BASE: the live source, or both sides of a fade, advanced; a FILL's incoming source does not
play (R140, R147). The live source does not play beside a fade (DESIGN CHOICE, log entry 42). -/
def advanceBase (x : Lights) : Lights × Bool :=
  match x.base.fade with
  | some f =>
    let o := f.outgoing.advance x
    let i := match f.kind with
      | .fade => f.incoming.advance x
      | .fill => (f.incoming, false)
    ({ x with base := { x.base with fade := some { f with outgoing := o.1, incoming := i.1 } } }, o.2 || i.2)
  | none =>
    let r := x.base.live.advance x
    ({ x with base := { x.base with live := r.1 } }, r.2)

/-- The blend weight at a fade position (R146). -/
def blendWeight (k n : Nat) : Nat := (32 * k + n / 2) / n

/-- Step 3: a fade advances by one position and ends when it reaches n (R146, R147). -/
def fadeStep (x : Lights) : Lights × Bool :=
  match x.base.fade with
  | some f =>
    if f.n ≤ f.k + 1 then
      let live := match f.kind with
        | .fade => f.incoming
        | .fill => Live.start x f.incoming.source f.startStep false
      ({ x with base := { x.base with live := live, fade := none } }, true)
    else ({ x with base := { x.base with fade := some { f with k := f.k + 1 } } }, false)
  | none => (x, false)

/-- The BASE value of a channel (R142, R146). -/
def baseValue (x : Lights) (ch : Nat) : Nat :=
  match x.base.fade with
  | some f =>
    let alpha := blendWeight f.k f.n
    let old := f.outgoing.value x ch
    let new := match f.kind with
      | .fade => f.incoming.value x ch
      | .fill => f.fillLevel
    (old * (32 - alpha) + new * alpha + 16) / 32
  | none => x.base.live.value x ch

/-! ## SIGNAL and ALERT: step 2 of R141 -/

/-- What the light engine reads of the other blocks at a boundary (R141). -/
structure LightInputs where
  s : Int
  braking : Bool
  reverse : Bool
  stage : Stage
  loadHold : Bool
  failsafe : Bool
  gL : Nat
  deriving DecidableEq, Repr

/-- An automatic source at step 2: it starts when it becomes active or a write has changed its pattern field since the
latest boundary, and advances while it stays active (R149, R156). -/
def autoStep (x : Lights) (active : Bool) (field : Nat) (a : AutoSource) : AutoSource × Bool :=
  if active then
    if a.active ∧ a.pattern = field ∧ a.rewritten = false then
      let r := a.play.advance (x.defn field)
      ({ a with play := r.1 }, r.2)
    else (⟨true, field, Playback.start (x.defn field) 0, false⟩, false)
  else ({ a with active := false, rewritten := false }, false)

/-- The manual overlay at step 2: started when marked, else advanced (R150, R151). -/
def overlayStep (x : Lights) (o : Overlay) : Overlay × Bool :=
  match o.pattern with
  | some n =>
    if o.restart then ({ o with play := Playback.start (x.defn n) 0, restart := false }, false)
    else
      let r := o.play.advance (x.defn n)
      ({ o with play := r.1 }, r.2)
  | none => ({ o with restart := false }, false)

/-- Step 2 for SIGNAL (R149, R150). In MANUAL the automatic sources are not evaluated: their activities and the
indicator's mirrored flag stay as the latest boundary in AUTO left them (DEDUCED, log entry 25). -/
def signalStep (p : Profile) (u : LightInputs) (x : Lights) : Lights × Bool :=
  match x.mode with
  | .auto =>
    let i := autoStep x (decide (p.get .indicatorThreshold ≤ mag u.s)) (p.nat .indicatorPattern) x.indicator
    let b := autoStep x u.braking (p.nat .brakePattern) x.brake
    let r := autoStep x u.reverse (p.nat .reversePattern) x.reverse
    ({ x with indicator := i.1, brake := b.1, reverse := r.1, mirrored := decide (u.s < 0) }, i.2 || b.2 || r.2)
  | .manual =>
    let o := overlayStep x x.overlay
    ({ x with overlay := o.1 }, o.2)

/-- The alerts in the order of their rank (R152). -/
def allAlerts : List Alert := [.failsafe, .cutoff, .limit, .winchLoad, .conserve]

/-- Whether an alert is active (R152). -/
def alertActive (u : LightInputs) (a : Alert) : Bool :=
  match a with
  | .failsafe => u.failsafe
  | .cutoff => u.stage = .cutoff
  | .limit => u.stage = .limit
  | .winchLoad => u.loadHold
  | .conserve => u.stage = .conserve

/-- The field that names an alert's pattern (section 8.1). -/
def Alert.field (a : Alert) : Field :=
  match a with
  | .failsafe => .failsafePattern
  | .cutoff => .cutoffPattern
  | .limit => .limitPattern
  | .winchLoad => .winchLoadPattern
  | .conserve => .conservePattern

/-- An alert's pattern field as the profile holds it, 16 for none (section 8.1). -/
def alertField (p : Profile) (a : Alert) : Nat := p.nat a.field

/-- The selected alert: the highest-ranked active alert whose pattern field is not none (R152). -/
def selectAlert (p : Profile) (u : LightInputs) : Option Alert :=
  allAlerts.find? fun a => alertActive u a && decide (alertField p a < 16)

/-- Step 2 for ALERT (R152, R156). -/
def alertStep (p : Profile) (u : LightInputs) (x : Lights) : Lights × Bool :=
  match selectAlert p u with
  | none => ({ x with alert := { x.alert with selected := none, rewritten := false } }, false)
  | some a =>
    let field := alertField p a
    if x.alert.selected = some a ∧ x.alert.pattern = field ∧ x.alert.rewritten = false then
      let r := x.alert.play.advance (x.defn field)
      ({ x with alert := { x.alert with play := r.1 } }, r.2)
    else ({ x with alert := ⟨some a, field, Playback.start (x.defn field) 0, false⟩ }, false)

/-- A write that changes a field, marked in the source that plays it or in the ALERT layer while the field is the
selected alert's, so that it restarts at its next boundary; no other field marks anything (R156). -/
def patternRewritten (f : Field) (x : Lights) : Lights :=
  match f with
  | .indicatorPattern => { x with indicator := { x.indicator with rewritten := true } }
  | .brakePattern => { x with brake := { x.brake with rewritten := true } }
  | .reversePattern => { x with reverse := { x.reverse with rewritten := true } }
  | _ =>
    if x.alert.selected.map Alert.field = some f then { x with alert := { x.alert with rewritten := true } } else x

/-- The fields that name a pattern which plays (section 8.1). -/
def patternFields : List Field :=
  [.indicatorPattern, .brakePattern, .reversePattern, .failsafePattern, .cutoffPattern, .limitPattern,
   .winchLoadPattern, .conservePattern]

/-- The pattern fields that a new profile changes, marked (R156, R183; DEDUCED, log entry 24). -/
def patternsReplaced (old new : Profile) (x : Lights) : Lights :=
  patternFields.foldl (fun x f => if old.get f = new.get f then x else patternRewritten f x) x

/-- The channel a mirrored source takes a channel's value from: 2k and 2k+1 change places (R149). -/
def mirrorChannel (ch : Nat) : Nat := if ch % 2 = 0 then ch + 1 else ch - 1

/-- A pattern's value for a channel, mirrored or not. -/
def mirroredValue (x : Lights) (mirrored : Bool) (n : Nat) (y : Playback) (ch : Nat) : Nat :=
  patternValue x n y (if mirrored then mirrorChannel ch else ch)

/-- An automatic source's value for a channel, PASS while inactive (R149). -/
def autoValue (x : Lights) (a : AutoSource) (mirrored : Bool) (ch : Nat) : Nat :=
  if a.active then mirroredValue x mirrored a.pattern a.play ch else passValue

/-- The upper of two layer values that is not PASS. -/
def overPass (upper lower : Nat) : Nat := if upper = passValue then lower else upper

/-- The SIGNAL value of a channel (R149, R150). -/
def signalValue (x : Lights) (ch : Nat) : Nat :=
  match x.mode with
  | .auto =>
    overPass (autoValue x x.indicator x.mirrored ch)
      (overPass (autoValue x x.brake false ch) (autoValue x x.reverse false ch))
  | .manual =>
    match x.overlay.pattern with
    | some n => mirroredValue x x.overlay.mirrored n x.overlay.play ch
    | none => passValue

/-- The ALERT value of a channel (R152). -/
def alertValue (x : Lights) (ch : Nat) : Nat :=
  match x.alert.selected with
  | some _ => patternValue x x.alert.pattern x.alert.play ch
  | none => passValue

/-! ## Composition, estimate and dimming: steps 4, 5 and 6 of R141 -/

/-- The composed value of a channel (R153). -/
def composedValue (x : Lights) (ch : Nat) : Nat :=
  overPass (alertValue x ch) (overPass (signalValue x ch) (baseValue x ch))

/-- I_Lest of composed values (R154). -/
def lightEstimate (p : Profile) (v : Vector Nat 24) : Nat :=
  ((List.finRange 24).map fun c => v[c] * p.nat (.channelCurrent c)).sum / 254

/-- A dimmed output (R155). -/
def dimmed (g v : Nat) : Nat := (v * g + 512) / 1024

/-- Steps 4 to 6, and the activities kept for REPORT LIGHTS (R158). -/
def composeStep (p : Profile) (g : Nat) (x : Lights) : Lights :=
  let v : Vector Nat 24 := chanVec (composedValue x)
  { x with composed := v, iLest := lightEstimate p v, outputs := vecMap (dimmed g) v, gUsed := g
           shown := ⟨x.indicator.active, x.brake.active, x.reverse.active⟩ }

/-- Steps 1 to 3 of a boundary: the lights, whether a countdown reached 0 at step 2, and whether a fade ended
at step 3. -/
def boundaryPlay (p : Profile) (u : LightInputs) (x : Lights) : Lights × Bool × Bool :=
  let a := alertStep p u (switchStep x)
  let g := signalStep p u a.1
  let b := advanceBase g.1
  let f := fadeStep b.1
  (f.1, a.2 || g.2 || b.2, f.2)

/-- What the light engine reads as it stands (R141, R152). -/
def lightInputs (s : State) : LightInputs where
  s := s.steer.s
  braking := s.drive.braking
  reverse := s.drive.reverse
  stage := s.supply.stage
  loadHold := s.winch.state = .loadHold
  failsafe :=
    let f (q : Port) : Bool := decide (q.link = .silent) && q.failsafeFlag
    f s.ports.p || f s.ports.w || f s.ports.s
  gL := s.alloc.gL

/-- One light frame boundary (R141). The end of a fade hands result GOOD for the LIGHTS slot (R146). -/
def lightBoundary (s : State) : State × List LightHappening :=
  let u := lightInputs s
  let p := s.chassis.profile
  let r := boundaryPlay p u s.lights
  let s1 := { s with lights := composeStep p u.gL r.1 }
  (if r.2.2 then endOp .lights .good s1 else s1,
    (if r.2.1 then [.countdownReached] else []) ++ (if r.2.2 then [.fadeEnded] else []))

/-! ## Resets, restore and the loss of an owner -/

/-- A table read from an image: every record closed (R138, R180). -/
def tableOf (t : Vector PatternDef 16) : Vector Record 16 := vecMap (fun d => ⟨d, none⟩) t

/-- The table as the image holds it (R180). -/
def defsOf (t : Vector Record 16) : Vector PatternDef 16 := vecMap (fun r => r.defn) t

/-- The store and table replaced, the layers kept (R157). -/
def restoreLights (store : Vector Frame 64) (t : Vector PatternDef 16) (x : Lights) : Lights :=
  { x with store := store, table := tableOf t }

/-- The live source after a reset: the start-up pattern at step 0 when it names a defined pattern, level 0
otherwise (R159). It starts at the first boundary, from the record as it then stands (DEDUCED, log entry 16). -/
def startUpLive (p : Profile) (x : Lights) : Live :=
  let n := p.nat .startPattern
  if (x.defn n).defined then Live.start x (.pattern n) 0 true else Live.start x (.level 0) 0 true

/-- The light engine after power-on, from the loaded profile, store and table (R159). -/
def lightsPowerOn (p : Profile) (store : Vector Frame 64) (t : Vector PatternDef 16) : Lights :=
  let x := restoreLights store t Lights.reset
  { x with base := ⟨startUpLive p x, none, none⟩ }

/-- The light engine after chassis reset: as after power-on, but the composed values, outputs, I_Lest and g_L
used are kept (R159). REPORT LIGHTS shows the reset's activities and alert until the next boundary (DESIGN CHOICE,
log entry 43). -/
def lightsChassisReset (p : Profile) (store : Vector Frame 64) (t : Vector PatternDef 16) (x : Lights) : Lights :=
  { lightsPowerOn p store t with
    composed := x.composed, outputs := x.outputs, iLest := x.iLest, gUsed := x.gUsed }

/-- A fade in flight marked ended (R21, R144). -/
def endFade (b : Base) : Base := { b with fade := b.fade.map fun f => { f with ended := true } }

/-- The loss of a transition's owner by LINK RESET: a transition still staged becomes a staged CUT of the same
source and start step, a fade in flight is marked ended (R21, R148). -/
def dropTransition (b : Base) : Base :=
  { endFade b with staged := b.staged.map fun g => { g with transition := .cut } }

end Sys2Proof.Machine
end

