-- ==== Sys2Proof/Machine/Steering.lean ====
section
/-! DEFINITION. The steering outputs (chapter 4) and the demanded angles they follow (R27): slew, servo pulses, servo current, the A_lock clamp and the safe action. -/

namespace Sys2Proof.Machine

/-- The demanded front and rear angles (R27). -/
def demandedAngles (s : Int) (mode : SteerMode) (r : Nat) (lock : Int) : PerAxle Int :=
  let angle := truncDiv (s * lock) 1000
  match mode with
  | .front => ⟨angle, 0⟩
  | .rear => ⟨0, -angle⟩
  | .counter => ⟨angle, -(truncDiv (angle * (r : Int)) 1000)⟩
  | .crab => ⟨angle, angle⟩

/-- One slew step of an axle toward its demand (R69). -/
def slew (step demand delta : Int) : Int :=
  if mag (demand - delta) ≤ step then demand
  else if delta < demand then delta + step else delta - step

/-- Step 1 of the motion period at the steering outputs: the demands stored and both axles slewed (R27, R69). -/
def steerStep (p : Profile) (x : Steer) : Steer :=
  let dem := demandedAngles x.s x.mode x.r (p.get .lockAngle)
  let step := p.get .slewStep
  { x with demand := dem
           delta := ⟨slew step dem.front x.delta.front, slew step dem.rear x.delta.rear⟩ }

/-- The sampling of the servo supply sense at each motion period (R73). -/
def sampleServo (sense : Nat) (x : Steer) : Steer :=
  { x with sampleOld := x.sampleNew, sampleNew := min sense 10000 }

/-- I_steer, the greater of the two latest samples (R73). Between the first and the second motion period after
power-on that is the first sample, where the rule's second paragraph has I_steer 0 until both have sampled
(DESIGN CHOICE, log entry 38). -/
def Steer.current (x : Steer) : Nat := max x.sampleNew x.sampleOld

/-- An axle's trim (R71). -/
def axleTrim (p : Profile) (a : Axle) : Int :=
  match a with
  | .front => p.get .frontTrim
  | .rear => p.get .rearTrim

/-- An axle's gain (R71). -/
def axleGain (p : Profile) (a : Axle) : Int :=
  match a with
  | .front => p.get .frontGain
  | .rear => p.get .rearGain

/-- An axle's lower endpoint (R72). -/
def axleMin (p : Profile) (a : Axle) : Int :=
  match a with
  | .front => p.get .frontMin
  | .rear => p.get .rearMin

/-- An axle's upper endpoint (R72). -/
def axleMax (p : Profile) (a : Axle) : Int :=
  match a with
  | .front => p.get .frontMax
  | .rear => p.get .rearMax

/-- An axle's pulse width before its endpoints: 1500 + trim + round(δ·gain/10) (R71). -/
def rawPulse (p : Profile) (a : Axle) (delta : Int) : Int :=
  1500 + axleTrim p a + roundDiv (delta * axleGain p a) 10

/-- The endpoint clamp of a pulse, and its flag (R72). -/
def endpointClamp (p : Profile) (a : Axle) (w : Int) : Int × ClampFlag :=
  if w < axleMin p a then (axleMin p a, .low)
  else if axleMax p a < w then (axleMax p a, .high)
  else (w, .none)

/-- One servo frame of an axle (R71, R72). -/
def servoFrame (p : Profile) (a : Axle) (x : Steer) : Steer :=
  let r := endpointClamp p a (rawPulse p a (x.delta.get a))
  { x with pulse := x.pulse.set a r.1, clamp := x.clamp.set a r.2 }

/-- A write of A_lock: the slewed and demanded angles clamped to the new range in the same event (R70). -/
def lockClamp (lock : Int) (x : Steer) : Steer :=
  let f (v : Int) : Int := clampInt (-lock) lock v
  { x with demand := ⟨f x.demand.front, f x.demand.rear⟩, delta := ⟨f x.delta.front, f x.delta.rear⟩ }

/-- The safe action of STEER at failsafe (R78): CENTRE sets s to 0, HOLD keeps it. -/
def steerSafe (p : Profile) (x : Steer) : Steer :=
  if p.get .failsafeSteering = 1 then { x with s := 0 } else x

/-- The steering outputs after power-on: the pulse fields read 1500 + trim, clamped (R79). -/
def steerPowerOn (p : Profile) : Steer :=
  { Steer.reset with
    pulse := ⟨(endpointClamp p .front (rawPulse p .front 0)).1, (endpointClamp p .rear (rawPulse p .rear 0)).1⟩ }

/-- The steering outputs after chassis reset: the pulse fields, clamp flags and current samples are kept
(R73, R79). -/
def steerChassisReset (x : Steer) : Steer :=
  { Steer.reset with pulse := x.pulse, clamp := x.clamp, sampleNew := x.sampleNew, sampleOld := x.sampleOld }

end Sys2Proof.Machine
end

