-- ==== Sys2Proof/Machine/Wheels.lean ====
section
/-! DEFINITION. The wheel channels (chapter 3): measurement, the nine steps of the regulator period, the hold request and the latch release. -/

namespace Sys2Proof.Machine

/-- What a regulator period can bring about besides its ordinary work, for the rows that name it (R56, R57,
R59, R60, R63, R64). -/
inductive ChannelHappening where
  | creepExceeded | settleEnded | stallReached | stallRestEnded | faultRestEnded | windowClosed
  /-- The stall sign was drawn as a free value (log entry 5). -/
  | signDrawn
  deriving DecidableEq, Repr

/-- A channel in the course of a period, with the WHEEL notices offered and what has happened so far. -/
structure ChannelWork where
  ch : Channel
  notices : List (WheelEvent × Int)
  happened : List ChannelHappening
  deriving DecidableEq, Repr

/-- A notice added to the work. -/
def ChannelWork.note (k : ChannelWork) (e : WheelEvent) (v : Int) : ChannelWork :=
  { k with notices := k.notices ++ [(e, v)] }

/-- A happening added to the work. -/
def ChannelWork.mark (k : ChannelWork) (h : ChannelHappening) : ChannelWork :=
  { k with happened := k.happened ++ [h] }

/-- The states whose bridge is driven (R49). -/
def ChannelState.driven (c : ChannelState) : Bool :=
  match c with
  | .run | .stall | .holdActive => true
  | .hold | .fault | .off => false

/-- The bridge mode of a channel's state (R49). -/
def Channel.bridgeOf (c : Channel) : Bridge :=
  match c.state with
  | .hold => .brake
  | .holdActive | .run | .stall => .driven c.d
  | .fault | .off => .opened

/-- The current a channel counts into I_D (R49, R51): none in FAULT, although an example of R127 has the current of a
wheel in FAULT rest reported (DEDUCED, log entry 45). -/
def Channel.share (c : Channel) : Nat := if c.state.driven then c.current else 0

/-- The channel in HOLD with its regulator memory, timers and creep count at 0 (R53, R55, R56, R58, R59). The rest timer of
the STALL or FAULT that is left, and the settle timer where HOLD_ACTIVE ends by it, are given no value by the rules
(DESIGN CHOICE 0, log entry 49). -/
def Channel.toHold (c : Channel) : Channel :=
  { c with state := .hold, d := 0, ePrev := 0, settle := 0, stallTimer := 0, rest := 0, creep := 0 }

/-- The channel entering RUN with the given regulator memory; the stall timer is 0 on every entry (R59). The rest timer of
the STALL or FAULT that is left and the settle timer of HOLD_ACTIVE are given no value by the rules (DESIGN CHOICE 0,
log entry 49). -/
def Channel.toRun (c : Channel) (d ePrev : Int) : Channel :=
  { c with state := .run, d := d, ePrev := ePrev, settle := 0, stallTimer := 0, rest := 0 }

/-! ## The steps of R52 -/

/-- Step 1: the speed window, m, the current sample, and in HOLD the creep count (R50, R51, R56). -/
def measureStep (count : Int) (sense : Nat) (c : Channel) : Channel :=
  let window := c.window.drop 1 ++ [count]
  { c with
    window := window
    m := clampInt (-30000) 30000 (window.sum * 50)
    current := min sense 45000
    creep := if c.state = .hold then c.creep + (mag count).toNat else c.creep }

/-- Step 2: whether the sample is a trip (R62). -/
def trips (p : Profile) (c : Channel) : Bool :=
  c.state.driven && decide (p.get .faultTrip < (c.current : Int))

/-- Whether the trip latches: the history is ARMED and its entry lies less than 2000 ms before this period,
the time since the entry being the stored time plus this period's 1 ms (R62; log entry 12). -/
def FaultHistory.latches (h : FaultHistory) : Bool :=
  match h with
  | .armed e => decide (e + 1 < 2000)
  | .latched => true
  | .none => false

/-- The outcome of a trip (R62). The rest timer is the time since FAULT was entered (state table of chapter 3), 0 there;
at the entry to OFF no rule gives it a value (DESIGN CHOICE 0, log entry 49). -/
def tripStep (k : ChannelWork) : ChannelWork :=
  let k := if k.ch.state = .stall then k.note .stallOff 4 else k
  let off := { k.ch with d := 0, ePrev := 0, settle := 0, stallTimer := 0, rest := 0 }
  if k.ch.history.latches then
    { k with ch := { off with state := .off, history := .latched } }.note .faultLatched k.ch.current
  else
    { k with ch := { off with state := .fault, history := .armed 0 } }.note .fault k.ch.current

/-- Step 3, the fault history window (R64). -/
def windowStep (k : ChannelWork) : ChannelWork :=
  match k.ch.history with
  | .armed e =>
    if 2000 ≤ e + 1 then { k with ch := { k.ch with history := .none } }.mark .windowClosed
    else { k with ch := { k.ch with history := .armed (e + 1) } }
  | .none | .latched => k

/-- Step 3, the rest timer of STALL or FAULT and the settle timer of HOLD_ACTIVE (R60, R63, R57). -/
def restStep (p : Profile) (k : ChannelWork) : ChannelWork :=
  match k.ch.state with
  | .stall =>
    if p.nat .stallRest ≤ k.ch.rest + 1 then
      ({ k with ch := k.ch.toRun k.ch.d k.ch.ePrev }.note .stallOff 0).mark .stallRestEnded
    else { k with ch := { k.ch with rest := k.ch.rest + 1 } }
  | .fault =>
    if 200 ≤ k.ch.rest + 1 then
      { k with ch := if k.ch.target = 0 then k.ch.toHold else k.ch.toRun 0 0 }.mark .faultRestEnded
    else { k with ch := { k.ch with rest := k.ch.rest + 1 } }
  | .holdActive =>
    if k.ch.m = 0 then
      if 200 ≤ k.ch.settle + 1 then { k with ch := k.ch.toHold }.mark .settleEnded
      else { k with ch := { k.ch with settle := k.ch.settle + 1 } }
    else { k with ch := { k.ch with settle := 0 } }
  | .hold | .run | .off => k

/-- Step 4: HOLD_ACTIVE ends in CUTOFF (R58). -/
def cutoffStep (stage : Stage) (k : ChannelWork) : ChannelWork :=
  if k.ch.state = .holdActive ∧ stage = .cutoff then { k with ch := k.ch.toHold } else k

/-- Step 5: the transitions caused by the stored target (R54, R61). -/
def targetStep (k : ChannelWork) : ChannelWork :=
  match k.ch.state with
  | .hold => if k.ch.target = 0 then k else { k with ch := k.ch.toRun 0 0 }
  | .holdActive => if k.ch.target = 0 then k else { k with ch := k.ch.toRun k.ch.d k.ch.ePrev }
  | .stall =>
    if k.ch.target = 0 then { k with ch := k.ch.toRun k.ch.d k.ch.ePrev }.note .stallOff 1
    else if decide (0 < k.ch.target) ≠ k.ch.stallPositive then
      { k with ch := k.ch.toRun k.ch.d k.ch.ePrev }.note .stallOff 2
    else k
  | .run | .fault | .off => k

/-- Step 6: HOLD to HOLD_ACTIVE when the creep count exceeds the hold creep (R56). -/
def creepStep (p : Profile) (stage : Stage) (k : ChannelWork) : ChannelWork :=
  if k.ch.state = .hold ∧ p.nat .holdCreep ≠ 0 ∧ stage ≠ .cutoff ∧ p.nat .holdCreep < k.ch.creep then
    { k with ch := { k.ch with state := .holdActive, d := 0, ePrev := 0, settle := 0 } }.mark .creepExceeded
  else k

/-- The duty limit of a driven state (R49). -/
def dutyLimit (p : Profile) (c : ChannelState) : Int :=
  match c with
  | .holdActive => p.get .holdDuty
  | .stall => p.get .stallCap
  | .run => 1000
  | .hold | .fault | .off => 0

/-- Step 7: the incremental regulator (R53). -/
def regulateStep (p : Profile) (k : ChannelWork) : ChannelWork :=
  if k.ch.state.driven then
    let e := (if k.ch.state = .holdActive then 0 else k.ch.target) - k.ch.m
    let delta := truncDiv (p.get .kp * (e - k.ch.ePrev) + p.get .ki * e) 256
    let limit := dutyLimit p k.ch.state
    { k with ch := { k.ch with d := clampInt (-limit) limit (k.ch.d + delta), ePrev := e } }
  else k

/-- Whether the stall condition holds (R59). -/
def stallCondition (p : Profile) (c : Channel) : Bool :=
  decide (p.get .stallDuty ≤ mag c.d) && decide (mag c.m ≤ p.get .stallSpeed)

/-- Step 8: the stall timer, and the entry to STALL (R59). `freeSign` is the sign stored when the target is 0,
which the rule does not state (log entry 5). -/
def stallStep (p : Profile) (freeSign : Bool) (k : ChannelWork) : ChannelWork :=
  if k.ch.state = .run then
    if stallCondition p k.ch then
      if p.nat .stallTime ≤ k.ch.stallTimer + 1 then
        let cap := p.get .stallCap
        let entered := { k.ch with
          state := .stall
          d := clampInt (-cap) cap k.ch.d
          stallPositive := if k.ch.target = 0 then freeSign else decide (0 < k.ch.target)
          rest := 0
          stallTimer := 0 }
        let k' := ({ k with ch := entered }.note .stallOn k.ch.d).mark .stallReached
        if k.ch.target = 0 then k'.mark .signDrawn else k'
      else { k with ch := { k.ch with stallTimer := k.ch.stallTimer + 1 } }
    else { k with ch := { k.ch with stallTimer := 0 } }
  else k

/-- Step 9: the bridge set to the mode and duty of the state that results (R52). -/
def outputStep (k : ChannelWork) : ChannelWork := { k with ch := { k.ch with bridge := k.ch.bridgeOf } }

/-- One regulator period of a channel, its nine steps in the order of R52; a trip at step 2 passes over steps 3
to 8 (R62). -/
def channelPeriod (p : Profile) (stage : Stage) (freeSign : Bool) (count : Int) (sense : Nat)
    (c : Channel) : ChannelWork :=
  let k : ChannelWork := ⟨measureStep count sense c, [], []⟩
  if trips p k.ch then outputStep (tripStep k)
  else outputStep (stallStep p freeSign (regulateStep p (creepStep p stage (targetStep
    (cutoffStep stage (restStep p (windowStep k)))))))

/-- The regulator period of one wheel in the part: its channel replaced, its notices offered in its own order, and the
count of free values advanced when one was drawn. -/
def regulatorPeriod (w : Wheel) (count : Int) (sense : Nat) (s : State) : State × List ChannelHappening :=
  let k := channelPeriod s.chassis.profile s.supply.stage (Config.stallSignOfZero s.draws) count sense
    (s.wheels.get w)
  let s1 := { s with
    wheels := s.wheels.set w k.ch
    draws := if ChannelHappening.signDrawn ∈ k.happened then s.draws + 1 else s.draws }
  (offerList (k.notices.map fun n => .wheel w n.1 n.2) s1, k.happened)

/-! ## The hold request (R55) and the latch release (R65) -/

/-- The hold request at one channel, with or without the latch release (R55, R65). The bridge takes the mode of
the state at the request (log entry 13). -/
def Channel.holdRequest (release : Bool) (c : Channel) : Channel :=
  let c := { c with target := 0 }
  match c.state with
  | .run | .stall | .holdActive => { c.toHold with bridge := .brake }
  | .off => if release then { c.toHold with history := .none, bridge := .brake } else c
  | .hold | .fault => c

/-- The STALL_OFF a channel offers at the hold request (R55, R66). -/
def holdRequestNotice (w : Wheel) (c : Channel) : List Notice :=
  if c.state = .stall then [.wheel w .stallOff 3] else []

/-- The hold request handed to all four channels (R42, R55). The channels offer independently, so each port takes the
STALL_OFF notices in any order (R66, `arrange`). -/
def handHold (release : Bool) (s : State) : State :=
  let ns := holdRequestNotice .fl s.wheels.fl ++ holdRequestNotice .fr s.wheels.fr
    ++ holdRequestNotice .rl s.wheels.rl ++ holdRequestNotice .rr s.wheels.rr
  offerList ns { s with wheels := s.wheels.map (Channel.holdRequest release) }

/-- How many channels are in OFF (R45). -/
def wheelsOff (s : State) : Nat := (s.wheels.list.filter fun c => c.state = .off).length

/-- I_D, the sum of the four contributions as they stand (R51). -/
def driveCurrent (s : State) : Nat :=
  s.wheels.fl.share + s.wheels.fr.share + s.wheels.rl.share + s.wheels.rr.share

/-- A channel at chassis reset: the power-on values, but the speed window, m and I_wheel kept, and the bridge
braked since the channel is put in HOLD (R68; log entry 13). -/
def Channel.chassisReset (c : Channel) : Channel :=
  { Channel.reset with window := c.window, m := c.m, current := c.current, bridge := .brake }

end Sys2Proof.Machine
end

