-- ==== Sys2Proof/Machine/Motion.lean ====
section
/-! DEFINITION. The motion computer (chapter 2): tangent, curvature, side factors, base speed, targets, drive states, signals, and the events that stop the drive. -/

namespace Sys2Proof.Machine

/-- The tangent table of R29, for whole degrees 0 to 40, in Q14. -/
def tanTable : List Int :=
  [0, 286, 572, 859, 1146, 1433, 1722, 2012, 2303, 2595,
   2889, 3185, 3483, 3783, 4085, 4390, 4698, 5009, 5323, 5641,
   5963, 6289, 6620, 6955, 7295, 7640, 7991, 8348, 8712, 9082,
   9459, 9845, 10238, 10640, 11051, 11472, 11904, 12346, 12801, 13268,
   13748]

/-- tanQ of an angle of no sign, in tenths of a degree (R29). -/
def tanMag (a : Nat) : Int :=
  let k := a / 10
  let j := a % 10
  let lo := tanTable.getD k 0
  if j = 0 then lo else lo + truncDiv ((tanTable.getD (k + 1) 0 - lo) * (j : Int)) 10

/-- tanQ of a signed angle (R29). -/
def tanQ (delta : Int) : Int := if delta < 0 then -(tanMag delta.natAbs) else tanMag delta.natAbs

/-- The curvature κ, in Q14 per metre (R30). -/
def curvature (p : Profile) (front rear : Int) : Int :=
  truncDiv ((tanQ front - tanQ rear) * 1000) (p.get .wheelbase)

/-- The side offset (R31). -/
def sideOffset (p : Profile) (kappa : Int) : Int := truncDiv (kappa * p.get .track) 2000

/-- The left side factor (R31). -/
def leftFactor (p : Profile) (kappa : Int) : Int := clampInt 0 32767 (16384 + sideOffset p kappa)

/-- The right side factor (R31). -/
def rightFactor (p : Profile) (kappa : Int) : Int := clampInt 0 32767 (16384 - sideOffset p kappa)

/-- The effective throttle t' (R26). -/
def effectiveThrottle (p : Profile) (t : Int) : Int := if mag t ≤ p.get .deadband then 0 else t

/-- Whether the winch is hauling (R35, R83). -/
def Winch.hauling (w : Winch) : Bool :=
  match w.state with
  | .runIn | .reference => true
  | .move => w.moveDir = some .inward
  | .idle | .runOut | .loadHold | .free => false

/-- The tow base speed b_tow (R35). -/
def towSpeed (p : Profile) (w : Winch) : Int :=
  if w.hauling then
    clampInt (-(p.get .fullSpeed)) (p.get .fullSpeed)
      (roundDiv (w.speed * p.get .wheelCp100 * p.get .towRatio) (p.get .cp100 * 1000))
  else 0

/-- The base speed command b_cmd (R32, R35). -/
def baseCommand (p : Profile) (w : Winch) (t : Int) : Int :=
  match w.tow with
  | some _ => towSpeed p w
  | none => truncDiv (effectiveThrottle p t * p.get .fullSpeed) 1000

/-- The base speed ramp (R33). -/
def ramp (step cmd b : Int) : Int :=
  if mag (cmd - b) ≤ step then cmd else if b < cmd then b + step else b - step

/-- A wheel target from the base speed, a side factor and g_D, in the two rounded stages of R36. -/
def wheelTarget (b factor : Int) (g : Nat) : Int :=
  clampInt (-4000) 4000 (roundDiv (roundDiv (b * factor) 16384 * (g : Int)) 1024)

/-- Step 7 of R25, the drive state (R38). HOLDING is left by b and b_cmd alone, although R39 speaks of a t' that is not 0,
which can give a b_cmd of 0 (DEDUCED, log entry 48). -/
def nextDriveState (st : DriveState) (b cmd : Int) : DriveState :=
  match st with
  | .holding => if b = 0 ∧ cmd = 0 then .holding else .driving
  | .driving => if b = 0 ∧ cmd = 0 then .holding else .driving
  | .towing => .towing
  | .safeHold => .safeHold

/-- The brake timer at step 7: started at 0 on entering HOLDING from DRIVING, stopped on leaving HOLDING (R43). -/
def nextBrakeTimer (was now : DriveState) (timer : Option Nat) : Option Nat :=
  if was = .driving ∧ now = .holding then some 0
  else if was = .holding ∧ now ≠ .holding then none
  else timer

/-- The braking signal (R43). -/
def brakingSignal (p : Profile) (b bLast : Int) (timer : Option Nat) : Bool :=
  decide (mag b < mag bLast) ||
    match timer with
    | some e => decide (e < p.nat .brakeHoldTime)
    | none => false

/-- The drive and the steering after one motion period, before the targets and the hold request reach the
channels: steps 1 to 8 of R25. -/
def motionCompute (p : Profile) (x : Steer) (w : Winch) (g : Nat) (d : Drive) : Drive :=
  let kappa := curvature p x.delta.front x.delta.rear
  let fLeft := leftFactor p kappa
  let fRight := rightFactor p kappa
  let cmd := baseCommand p w d.t
  let b := ramp (p.get .rampStep) cmd d.b
  let left := wheelTarget b fLeft g
  let right := wheelTarget b fRight g
  let st := nextDriveState d.state b cmd
  let timer := nextBrakeTimer d.state st d.brakeTimer
  { d with
    kappa := kappa
    fLeft := fLeft
    fRight := fRight
    bCmd := cmd
    b := b
    targets := ⟨left, right, left, right⟩
    state := st
    brakeTimer := timer
    braking := brakingSignal p b d.bLast timer
    reverse := decide (b < 0)
    bLast := b
    gUsed := g }

/-- The four targets stored by the channels at the end of step 6, whatever their state (R54). -/
def handTargets (ts : PerWheel Int) (ws : PerWheel Channel) : PerWheel Channel :=
  ⟨{ ws.fl with target := ts.fl }, { ws.fr with target := ts.fr }, { ws.rl with target := ts.rl },
   { ws.rr with target := ts.rr }⟩

/-- One motion period (R25), with the servo sense reading that R73 samples at it. -/
def motionPeriod (servoSense : Nat) (s : State) : State :=
  let p := s.chassis.profile
  let x := sampleServo servoSense (steerStep p s.steer)
  let d := motionCompute p x s.winch s.alloc.gD s.drive
  let s1 := { s with steer := x, drive := d, wheels := handTargets d.targets s.wheels }
  let s2 := if s.drive.state = .driving ∧ d.state = .holding then handHold false s1 else s1
  { s2 with drive := { s2.drive with wheelStates := s2.wheels.map fun c => c.state } }

/-! ## Events that stop the drive at once (R34) -/

/-- t, b and b_cmd set to 0 and the drive state replaced. The brake timer starts when DRIVING becomes HOLDING
and stops when HOLDING is left (R34, R43). -/
def Drive.zeroed (d : Drive) (st : DriveState) : Drive :=
  { d with t := 0, b := 0, bCmd := 0, state := st, brakeTimer := nextBrakeTimer d.state st d.brakeTimer }

/-- The drive halted into a state, with the hold request (R34, R42). -/
def haltDrive (st : DriveState) (release : Bool) (s : State) : State :=
  handHold release { s with drive := s.drive.zeroed st }

/-- The state STOP ALL and CUTOFF entry leave the drive in: SAFE_HOLD stays, every other becomes HOLDING (R34). -/
def DriveState.afterStop (st : DriveState) : DriveState :=
  match st with
  | .safeHold => .safeHold
  | .holding | .driving | .towing => .holding

/-- The drive's part of STOP ALL and of CUTOFF entry (R20, R34, R41). -/
def stopDrive (s : State) : State := haltDrive s.drive.state.afterStop false s

/-- The motion computer after chassis reset (R48): g_D as the allocator takes it (R134). REPORT DRIVE gives these values
until the next motion period, with the wheel states, which R48 does not list, at the HOLD that the channels take
(DESIGN CHOICE, log entry 46). -/
def driveChassisReset (stage : Stage) : Drive :=
  { Drive.reset with gUsed := if stage = .cutoff then 0 else 1024 }

end Sys2Proof.Machine
end

