-- ==== Sys2Proof/Machine/Winching.lean ====
section
/-! DEFINITION. The winch (chapter 5): drum counts, the winch period, the payout limit, the ends of a MOVE and a REFERENCE, the stop action, and the tow link. -/

namespace Sys2Proof.Machine

/-- What a winch period can bring about, for the rows that name it (R93, R94, R95). -/
inductive WinchHappening where
  | referenceTaken | referenceTimedOut | loadHeld
  deriving DecidableEq, Repr

/-- The payout in mm of a payout count (R80). -/
def payoutMm (p : Profile) (count : Int) : Int := truncDiv (count * 100) (p.get .cp100)

/-- The payout in mm as it stands (R80). -/
def payoutNow (s : State) : Int := payoutMm s.chassis.profile s.winch.count

/-- The winch in IDLE, braked, with its run speed, timers and move cleared (R84, R88, R91, R99). -/
def Winch.toIdle (w : Winch) : Winch :=
  { w with state := .idle, runSpeed := 0, moveTarget := none, moveDir := none, refTimer := 0, loadTimer := 0,
           bridge := .brake }

/-- The winch of the part replaced. -/
def setWinch (w : Winch) (s : State) : State := { s with winch := w }

/-- A MOVE or REFERENCE ended into IDLE with a result (R88, R91, R98, R99). -/
def endWinchOp (r : OpResult) (s : State) : State := endOp .winch r (setWinch s.winch.toIdle s)

/-- The outward stop at L_max, when it applies: referenced and payout at least L_max (R84). -/
def payoutLimitStop (s : State) : State :=
  if s.winch.referenced ∧ s.chassis.profile.get .payoutLimit ≤ payoutNow s then
    offer (.winch .limit (payoutNow s)) (setWinch { s.winch.toIdle with note := .payoutMax } s)
  else s

/-- Whether a MOVE has reached its target (R91). -/
def moveReached (s : State) : Bool :=
  match s.winch.moveTarget, s.winch.moveDir with
  | some target, some .inward => decide (payoutNow s ≤ (target : Int))
  | some target, some .outward => decide ((target : Int) ≤ payoutNow s)
  | _, _ => false

/-- The end check of a MOVE (R91). -/
def moveEndCheck (s : State) : State :=
  if s.winch.state = .move ∧ moveReached s then endWinchOp .good s else s

/-- The checks a drum count or a profile write triggers: in MOVE its end check and then, outward, the payout
limit; in RUN_OUT the payout limit (R84, R91). -/
def payoutChecks (s : State) : State :=
  match s.winch.state with
  | .move =>
    let s1 := moveEndCheck s
    if s1.winch.state = .move ∧ s1.winch.moveDir = some .outward then payoutLimitStop s1 else s1
  | .runOut => payoutLimitStop s
  | .idle | .runIn | .reference | .loadHold | .free => s

/-- The payout count after one count, held at the ends of its range (R80). -/
def countAfter (dir : LineDir) (c : Int) : Int :=
  match dir with
  | .outward => min (c + 1) 2147483647
  | .inward => max (c - 1) (-2147483648)

/-- One drum count (R80). -/
def drumCount (dir : LineDir) (s : State) : State :=
  payoutChecks (setWinch { s.winch with count := countAfter dir s.winch.count } s)

/-- A write of L_max or cp100: a stored outward MOVE target above L_max is clamped to it, and the checks are
made at the write (R84, R90, R91, R100). -/
def winchWriteChecks (s : State) : State :=
  let limit := s.chassis.profile.nat .payoutLimit
  let s1 := if s.winch.state = .move ∧ s.winch.moveDir = some .outward then
      setWinch { s.winch with moveTarget := s.winch.moveTarget.map fun t => min t limit } s
    else s
  payoutChecks s1

/-- Whether the load timer runs in the winch's state (R95). -/
def Winch.loadTimed (w : Winch) : Bool :=
  match w.state with
  | .runIn | .reference => true
  | .move => w.moveDir = some .inward
  | .idle | .runOut | .loadHold | .free => false

/-- Steps 1 and 2 of R81: drum speed and winch current. -/
def winchMeasure (sense : Nat) (w : Winch) : Winch :=
  { w with speed := clampInt (-60000) 60000 ((w.prevCount - w.count) * 100)
           prevCount := w.count
           current := min sense 40000 }

/-- Step 3 of R81: the reference point, else the time limit (R93, R94). -/
def referenceStep (s : State) : State × List WinchHappening :=
  if s.winch.state = .reference then
    let timer := if s.chassis.profile.nat .referenceCurrent < s.winch.current then s.winch.refTimer + 10 else 0
    if 50 ≤ timer then
      (endWinchOp .good (setWinch { s.winch with count := 0, prevCount := 0, referenced := true } s),
        [.referenceTaken])
    else
      let start := match s.disp.winchOp with
        | some op => op.start
        | none => s.now
      if 20000 ≤ s.now - start then (endWinchOp .timeout s, [.referenceTimedOut])
      else (setWinch { s.winch with refTimer := timer } s, [])
  else (s, [])

/-- Step 4 of R81: the load timer and the entry to LOAD_HOLD (R95). -/
def loadStep (s : State) : State × List WinchHappening :=
  if s.winch.loadTimed then
    let timer := if s.chassis.profile.nat .loadCurrent < s.winch.current then s.winch.loadTimer + 10 else 0
    if 100 ≤ timer then
      let s1 := offer (.winch .load s.winch.current)
        (setWinch { s.winch.toIdle with state := .loadHold, note := .loadHold } s)
      (if s.winch.state = .move then endOp .winch .loadLimit s1 else s1, [.loadHeld])
    else (setWinch { s.winch with loadTimer := timer } s, [])
  else (setWinch { s.winch with loadTimer := 0 } s, [])

/-- Whether inward motion is slowed: unreferenced, or a payout below the slow zone (R85). -/
def slowed (s : State) : Bool :=
  !s.winch.referenced || decide (payoutNow s < s.chassis.profile.get .slowZone)

/-- The effective speed (R85). -/
def effectiveSpeed (s : State) : Nat :=
  let inward := if slowed s then min s.winch.runSpeed (s.chassis.profile.nat .slowSpeed) else s.winch.runSpeed
  match s.winch.state with
  | .runIn => inward
  | .move => if s.winch.moveDir = some .inward then inward else s.winch.runSpeed
  | .runOut => s.winch.runSpeed
  | .reference => s.chassis.profile.nat .referenceSpeed
  | .idle | .loadHold | .free => 0

/-- The signed duty: the effective speed under g_W, inward positive (R86). -/
def winchDuty (s : State) : Int :=
  let d : Int := (effectiveSpeed s * s.alloc.gW / 1024 : Nat)
  match s.winch.state with
  | .runOut => -d
  | .move => if s.winch.moveDir = some .inward then d else -d
  | .idle | .runIn | .reference | .loadHold | .free => d

/-- The bridge mode of a winch state at a duty (R83). -/
def winchBridge (st : WinchState) (duty : Int) : Bridge :=
  match st with
  | .idle | .loadHold => .brake
  | .free => .opened
  | .runIn | .runOut | .move | .reference => .driven duty

/-- Steps 5 and 6 of R81: duty and output. -/
def dutyStep (s : State) : State :=
  let d := winchDuty s
  setWinch { s.winch with duty := d, bridge := winchBridge s.winch.state d, gUsed := s.alloc.gW } s

/-- One winch period, in the order of R81. The end check that R91 asks of each winch period in MOVE is made
between steps 3 and 4 (log entry 14). -/
def winchPeriod (sense : Nat) (s : State) : State × List WinchHappening :=
  let s1 := setWinch (winchMeasure sense s.winch) s
  let r := referenceStep s1
  let q := loadStep (moveEndCheck r.1)
  (dutyStep q.1, r.2 ++ q.2)

/-- I_W, the winch's contribution to the current budget (R82). -/
def winchCurrent (w : Winch) : Nat :=
  match w.state with
  | .runIn | .runOut | .move | .reference => w.current
  | .idle | .loadHold | .free => 0

/-! ## Stops and the tow link -/

/-- The stop action of STOP ALL and of failsafe (R99). -/
def winchStopAction (s : State) : State :=
  match s.winch.state with
  | .runIn | .runOut | .loadHold => setWinch s.winch.toIdle s
  | .move | .reference => endWinchOp .cancelled s
  | .idle | .free => setWinch { s.winch with runSpeed := 0, refTimer := 0, loadTimer := 0, moveTarget := none,
                                             moveDir := none } s

/-- The winch's part of CUTOFF entry (R98). -/
def winchCutoffEntry (s : State) : State :=
  match s.winch.state with
  | .runIn | .runOut => setWinch s.winch.toIdle s
  | .move | .reference => endWinchOp .cutoff s
  | .idle | .loadHold | .free => s

/-- The causes of the end of a tow link that are sent (R104). -/
inductive TowCause where
  | off | release | driveHold | stopAll | failsafe | linkReset | cutoff
  deriving DecidableEq, Repr

/-- The cause codes of R104; code 2 is reserved. -/
def TowCause.code (c : TowCause) : Nat :=
  match c with
  | .off => 0
  | .release => 1
  | .driveHold => 3
  | .stopAll => 4
  | .failsafe => 5
  | .linkReset => 6
  | .cutoff => 7

/-- The drive state a tow link's end leaves: HOLDING, or SAFE_HOLD when the cause was failsafe (R34, R104). -/
def TowCause.driveState (c : TowCause) : DriveState :=
  match c with
  | .failsafe => .safeHold
  | .off | .release | .driveHold | .stopAll | .linkReset | .cutoff => .holding

/-- The end of the tow link, when one exists: the record removed, TOW_END offered, the drive halted (R34, R104). -/
def endTow (c : TowCause) (s : State) : State :=
  match s.winch.tow with
  | some _ =>
    haltDrive c.driveState false (offer (.winch .towEnd c.code) (setWinch { s.winch with tow := none } s))
  | none => s

/-- Whether a link owns the tow link. -/
def ownsTow (l : Link) (s : State) : Bool :=
  match s.winch.tow with
  | some t => t.owner = l
  | none => false

/-- The creation of a tow link: the record, and the drive in TOWING with b and t kept (R40, R102). -/
def createTow (l : Link) (s : State) : State :=
  { s with
    winch := { s.winch with tow := some ⟨l, s.now⟩ }
    drive := { s.drive with state := .towing, brakeTimer := nextBrakeTimer s.drive.state .towing s.drive.brakeTimer } }

/-- The winch after chassis reset (R106). The g_W used is kept, as that of the latest period (log entry 9). The bridge is
braked at the reset from every state, where R106 says so of FREE and LOAD_HOLD alone (DESIGN CHOICE, log entry 50). -/
def winchChassisReset (w : Winch) : Winch :=
  { Winch.reset with
    referenced := w.referenced, count := w.count, prevCount := w.prevCount, speed := w.speed, current := w.current,
    bridge := .brake, gUsed := w.gUsed }

end Sys2Proof.Machine
end

