-- ==== Sys2Proof/Machine/Allocator.lean ====
section
/-! DEFINITION. The current allocator (chapter 7): availability, serving order, shares, and the three governor factors. -/

namespace Sys2Proof.Machine

/-- I_avail by stage (R123). -/
def available (p : Profile) (stage : Stage) : Nat :=
  match stage with
  | .normal => p.nat .packLimit
  | .conserve => p.nat .packLimit * 3 / 4
  | .limit => p.nat .packLimit / 2
  | .cutoff => 0

/-- The caps and used values of one allocation (R126, R127). -/
structure Shares where
  capD : Nat
  capW : Nat
  capL : Nat
  usedD : Nat
  usedW : Nat
  deriving DecidableEq, Repr

/-- The shares outside CUTOFF, in the serving order (R126). -/
def sharesBy (order : ServingOrder) (a floor iD iW limD limW limL : Nat) : Shares :=
  match order with
  | .driveFirst =>
    let cap1 := min a limD
    let used1 := min iD cap1
    let cap2 := min (a - used1) limW
    let used2 := min iW cap2
    ⟨cap1, cap2, min (floor + a - used1 - used2) limL, used1, used2⟩
  | .winchFirst =>
    let cap1 := min a limW
    let used1 := min iW cap1
    let cap2 := min (a - used1) limD
    let used2 := min iD cap2
    ⟨cap2, cap1, min (floor + a - used1 - used2) limL, used2, used1⟩

/-- The shares of an allocation in a stage (R126, R127). -/
def sharesIn (p : Profile) (stage : Stage) (order : ServingOrder) (a iD iW : Nat) : Shares :=
  match stage with
  | .cutoff => ⟨0, 0, p.nat .lightsFloor, 0, 0⟩
  | .normal | .conserve | .limit =>
    sharesBy order a (p.nat .lightsFloor) iD iW (p.nat .driveLimit) (p.nat .winchLimit) (p.nat .lightsLimit)

/-- A feedback governor (R128). -/
def feedback (rise g i cap : Nat) : Nat :=
  if cap < i then (if cap = 0 then 0 else g * cap / i) else min (g + rise) 1024

/-- A feedback governor in a stage: 0 in CUTOFF (R128, R129). -/
def feedbackIn (stage : Stage) (rise g i cap : Nat) : Nat :=
  match stage with
  | .cutoff => 0
  | .normal | .conserve | .limit => feedback rise g i cap

/-- The lights governor (R130). -/
def lightsGovernor (iLest capL : Nat) : Nat := if iLest ≤ capL then 1024 else 1024 * capL / iLest

/-- One allocation from its inputs (R122 to R130). -/
def allocate (p : Profile) (stage : Stage) (tow : Bool) (iSteer iD iW iLest : Nat) (x : Alloc) : Alloc :=
  let avail := available p stage
  let a := avail - iSteer - p.nat .lightsFloor
  let order := if tow then ServingOrder.winchFirst else .driveFirst
  let sh := sharesIn p stage order a iD iW
  { iSteer := iSteer
    iD := iD
    iW := iW
    iLest := iLest
    iAvail := avail
    a := a
    order := order
    capD := sh.capD
    capW := sh.capW
    capL := sh.capL
    usedD := sh.usedD
    usedW := sh.usedW
    gD := feedbackIn stage (p.nat .governorRise) x.gD iD sh.capD
    gW := feedbackIn stage (p.nat .governorRise) x.gW iW sh.capW
    gL := lightsGovernor iLest sh.capL }

/-- Step 6 of the supply period: the allocation from the consumers' currents as they stand (R122). -/
def allocationStep (s : State) : State :=
  { s with
    alloc := allocate s.chassis.profile s.supply.stage s.winch.tow.isSome s.steer.current (driveCurrent s)
      (winchCurrent s.winch) s.lights.iLest s.alloc }

/-- The allocator at chassis reset: the factors follow the kept stage, the rest is kept (R134). REPORT SUPPLY gives
these factors until the next allocation (DESIGN CHOICE, log entry 44). -/
def allocChassisReset (stage : Stage) (x : Alloc) : Alloc :=
  let g := if stage = .cutoff then 0 else 1024
  { x with gD := g, gW := g, gL := 1024 }

end Sys2Proof.Machine
end

