-- ==== Sys2Proof/Machine/Monitor.lean ====
section
/-! DEFINITION. The supply monitor (chapter 6): measurement, compensation, classification, the stage decision, stage changes, and the supply period. -/

namespace Sys2Proof.Machine

/-- What a supply period can bring about, for the rows that name it (R112, R113). -/
inductive SupplyHappening where
  | dwellDown | dwellUp
  deriving DecidableEq, Repr

/-- A cell voltage: the tap less the tap below, clamped to 0..5000 (R108). -/
def cellVoltage (tap below : Nat) : Nat := min (tap - below) 5000

/-- The cell voltages of the cells within the cell count, 0 for the others (R108). -/
def cellVoltages (n : Nat) (t : Taps) : Cells :=
  { v1 := if 1 ≤ n then cellVoltage t.tap1 0 else 0
    v2 := if 2 ≤ n then cellVoltage t.tap2 t.tap1 else 0
    v3 := if 3 ≤ n then cellVoltage t.tap3 t.tap2 else 0
    v4 := if 4 ≤ n then cellVoltage t.tap4 t.tap3 else 0 }

/-- V_min, the lowest voltage among cells 1 to n (R110). -/
def lowestCell (n : Nat) (c : Cells) : Nat :=
  let m2 := min c.v1 c.v2
  let m3 := if 3 ≤ n then min m2 c.v3 else m2
  if 4 ≤ n then min m3 c.v4 else m3

/-- I_pack of a shunt reading: current into the pack reads 0, above 60000 mA reads 60000 (R109). -/
def packCurrent (shunt : Int) : Nat := min shunt.toNat 60000

/-- The compensated voltage (R110). -/
def compensated (vMin iPack rCell : Nat) : Nat := vMin + iPack * rCell / 1000

/-- Steps 1 to 3 of R107 (R108, R109, R110). -/
def supplyMeasure (p : Profile) (t : Taps) (shunt : Int) (x : Supply) : Supply :=
  let n := p.nat .cellCount
  let cells := cellVoltages n t
  let i := packCurrent shunt
  let v := lowestCell n cells
  { x with countUsed := n, cells := cells, iPack := i, vMin := v
           vComp := compensated v i (p.nat .cellResistance) }

/-- The classification of a compensated voltage (R111). -/
def classify (p : Profile) (vComp : Nat) : Stage :=
  if vComp < p.nat .thresholdCutoff then .cutoff
  else if vComp < p.nat .thresholdLimit then .limit
  else if vComp < p.nat .thresholdConserve then .conserve
  else .normal

/-- Whether a stage is more severe than another. -/
def Stage.worse (a b : Stage) : Bool := decide (b.code < a.code)

/-- The milder of two stages. -/
def Stage.milder (a b : Stage) : Stage := if a.worse b then b else a

/-- One step milder (R113). -/
def Stage.stepUp (s : Stage) : Stage :=
  match s with
  | .normal => .normal
  | .conserve => .normal
  | .limit => .conserve
  | .cutoff => .limit

/-- The entry threshold of a stage that can rise: CONSERVE and LIMIT (R113). -/
def riseThreshold (p : Profile) (s : Stage) : Option Nat :=
  match s with
  | .conserve => some (p.nat .thresholdConserve)
  | .limit => some (p.nat .thresholdLimit)
  | .normal | .cutoff => none

/-- The rise condition (R113). -/
def riseHolds (p : Profile) (s : Stage) (vComp : Nat) : Bool :=
  match riseThreshold p s with
  | some t => decide (t + p.nat .hysteresis ≤ vComp)
  | none => false

/-- The supply monitor of the part replaced. -/
def setSupply (x : Supply) (s : State) : State := { s with supply := x }

/-- CUTOFF entry at the winch and the motion computer: the winch ends its work, a tow link ends, and the drive
stops (R41, R98, R104, R117). -/
def cutoffEntry (s : State) : State := stopDrive (endTow .cutoff (winchCutoffEntry s))

/-- The previous stage that a STAGE notice carries: for INITIAL it is NORMAL (R118). -/
def StageCause.previous (c : StageCause) (stage : Stage) : Stage :=
  match c with
  | .initial => .normal
  | .down | .up | .clear => stage

/-- A stage change (R117): the counters, the STAGE notice (R118), STAGE_CHANGED to all masters, and on entry
to CUTOFF what acts at the change itself. -/
def changeStage (new : Stage) (cause : StageCause) (s : State) : State :=
  let prev := cause.previous s.supply.stage
  let s1 := setSupply { s.supply with stage := new, down := 0, up := 0, candidate := none } s
  let s2 := postAll .stageChanged (offer (.stage new prev s.supply.vComp cause) s1)
  if new = .cutoff then cutoffEntry s2 else s2

/-- The down candidate after a period whose X is more severe than the stage (R112). -/
def nextCandidate (x : Supply) : Stage :=
  if x.down = 0 then x.x
  else match x.candidate with
    | some c => c.milder x.x
    | none => x.x

/-- The down counter of R112. -/
def downStep (s : State) : State × List SupplyHappening :=
  let x := s.supply
  if x.x.worse x.stage then
    let c := nextCandidate x
    if s.chassis.profile.nat .dwellDown ≤ x.down + 10 then (changeStage c .down s, [.dwellDown])
    else (setSupply { x with down := x.down + 10, candidate := some c } s, [])
  else (setSupply { x with down := 0, candidate := none } s, [])

/-- The up counter of R113, in CONSERVE and LIMIT. -/
def upStep (s : State) : State × List SupplyHappening :=
  let x := s.supply
  if riseHolds s.chassis.profile x.stage x.vComp then
    if s.chassis.profile.nat .dwellUp ≤ x.up + 10 then (changeStage x.stage.stepUp .up s, [.dwellUp])
    else (setSupply { x with up := x.up + 10 } s, [])
  else (setSupply { x with up := 0 } s, [])

/-- Step 5 of R107: the first classification (R116), the latch of CUTOFF (R114), the counters (R112, R113). A
period whose down counter changes the stage leaves the up counter at the 0 that the change gave it. -/
def stageDecision (s : State) : State × List SupplyHappening :=
  if s.supply.initialPending then
    let s1 := setSupply { s.supply with initialPending := false } s
    (if s.supply.x = .normal then setSupply { s1.supply with stage := .normal } s1
      else changeStage s.supply.x .initial s1, [])
  else match s.supply.stage with
    | .cutoff => (setSupply { s.supply with down := 0, up := 0, candidate := none } s, [])
    | .normal | .conserve | .limit =>
      let r := downStep s
      if SupplyHappening.dwellDown ∈ r.2 then r
      else
        let q := upStep r.1
        (q.1, r.2 ++ q.2)

/-- One supply period (R107). -/
def supplyPeriod (t : Taps) (shunt : Int) (s : State) : State × List SupplyHappening :=
  let m := supplyMeasure s.chassis.profile t shunt s.supply
  let s1 := setSupply { m with x := classify s.chassis.profile m.vComp } s
  let r := stageDecision s1
  (allocationStep r.1, r.2)

end Sys2Proof.Machine
end

