-- ==== Sys2Proof/Machine/ProfileStore.lean ====
section
/-! DEFINITION. The profile store (chapter 10): the image and its check, loading, the effects of a written field, the completion of a commit, and the loss of power. -/

namespace Sys2Proof.Machine

/-! ## The image -/

/-- A record of the image as bytes. DESIGN CHOICE (log entry 7): R180 gives the order of the image's contents
and not their widths. -/
def PatternDef.bytes (d : PatternDef) : List Byte :=
  [flagByte d.defined, byteOf d.first, byteOf d.count, byteOf d.stepTime, byteOf d.action.code]

/-- The contents of the image as bytes: the profile values, the frames, the records (R180; log entry 7). -/
def ImageContents.bytes (c : ImageContents) : List Byte :=
  c.profile.vals.toList.flatMap bytes4 ++ c.store.toList.flatMap Vector.toList
    ++ c.table.toList.flatMap PatternDef.bytes

/-- The check word of image contents, by the rule of the frame check (R162, R180). -/
def imageCheck (c : ImageContents) : BitVec 16 := crc16 c.bytes

/-- Whether an image passes its check (R183, R184). -/
def Image.good (i : Image) : Bool := i.check == imageCheck i.contents

/-- The image closed with its check word (R182). -/
def closedImage (c : ImageContents) : Image := ⟨c, imageCheck c⟩

/-- What a reading of the image gives the part (R183, R184). -/
structure Loaded where
  profile : Profile
  store : Vector Frame 64
  table : Vector PatternDef 16
  status : ProfileStatus
  deriving DecidableEq, Repr

/-- A reading of the image: its contents when its check is good, else the defaults, zeroed frames and an empty
table (R183, R184). -/
def readImage (i : Image) : Loaded :=
  if i.good then ⟨i.contents.profile, i.contents.store, i.contents.table, .loaded⟩
  else ⟨.defaults, zeroStore, Vector.replicate 16 .undefined, .defaults⟩

/-- The working profile, store and table as they stand (R181). -/
def contentsNow (s : State) : ImageContents := ⟨s.chassis.profile, s.lights.store, defsOf s.lights.table⟩

/-- Where power was lost during WRITING: each item of the image has its new or its old contents, and the check
word does not match them. Which items, and the word, are free values (R182; log entry 6). -/
def brokenImage (draw : Nat) (old : Image) (new : ImageContents) : Image :=
  let pick (i : Nat) : Bool := Config.imageItemWritten draw i
  let c : ImageContents :=
    { profile := ⟨Vector.ofFn fun i => if pick i then new.profile.vals[i] else old.contents.profile.vals[i]⟩
      store := Vector.ofFn fun i => if pick (87 + i) then new.store[i] else old.contents.store[i]
      table := Vector.ofFn fun i => if pick (151 + i) then new.table[i] else old.contents.table[i] }
  let w := Config.imageStaleCheck draw
  ⟨c, if w = imageCheck c then ~~~w else w⟩

/-! ## Written fields -/

/-- The chassis store of the part replaced. -/
def setChassis (x : Chassis) (s : State) : State := { s with chassis := x }

/-- A link's silence timeout (R172). -/
def timeoutOf (p : Profile) (l : Link) : Nat := p.nat (.silenceTimeout l)

/-- A silence timer started from 0, stopped when the timeout is 0 (R172). -/
def freshTimer (timeout : Nat) : Option Nat := if timeout = 0 then none else some 0

/-- A write of a link's silence timeout: the timer of an ACTIVE link restarts or stops (R173). -/
def timeoutWritten (l : Link) (s : State) : State :=
  let q := s.ports.get l
  if q.link = .active then setPort l { q with silence := freshTimer (timeoutOf s.chassis.profile l) } s else s

/-- What a field does at the write itself (R177): A_lock (R70), cp100 and L_max (R100), the silence timeouts
(R173). -/
def fieldWritten (f : Field) (s : State) : State :=
  match f with
  | .lockAngle => { s with steer := lockClamp (s.chassis.profile.get .lockAngle) s.steer }
  | .cp100 | .payoutLimit => winchWriteChecks s
  | .silenceTimeout l => timeoutWritten l s
  | _ => s

/-- A change that the image does not hold (R179, R182). -/
def markUnsaved (s : State) : State := setChassis { s.chassis with unsaved := true, changedSince := true } s

/-- A value stored in the working profile, the unsaved flag set when it differs from the value held (R177, R179). -/
def storeField (f : Field) (v : Int) (s : State) : State :=
  let s1 := setChassis { s.chassis with profile := s.chassis.profile.set f v } s
  if s.chassis.profile.get f = v then s1 else markUnsaved s1

/-- The working profile and the light store taken from a reading of the image, a changed pattern field marked as a
written one is (R183). -/
def takeLoaded (r : Loaded) (s : State) : State :=
  { s with
    chassis := { s.chassis with profile := r.profile, status := r.status, unsaved := false }
    lights := restoreLights r.store r.table (patternsReplaced s.chassis.profile r.profile s.lights) }

/-- The effects at the write that restored values have (R183): A_lock, then cp100 and L_max, then the silence
timeouts of P, W and S. -/
def restoredEffects (s : State) : State :=
  timeoutWritten .s (timeoutWritten .w (timeoutWritten .p (fieldWritten .payoutLimit (fieldWritten .lockAngle s))))

/-! ## Commit -/

/-- The acceptance of a commit (R181). -/
def startCommit (s : State) : State :=
  setChassis { s.chassis with
    snapshot := some (contentsNow s), imageState := .writing, changedSince := false } s

/-- The completion of the image write (R182); nothing outside WRITING, where no write is under way. -/
def commitComplete (s : State) : State :=
  match s.chassis.imageState, s.chassis.snapshot with
  | .writing, some c =>
    endOp .chassis .good (setChassis { s.chassis with
      image := closedImage c
      snapshot := none
      status := .loaded
      unsaved := if s.chassis.changedSince then s.chassis.unsaved else false
      imageState := .settling
      settleElapsed := 0 } s)
  | _, _ => s

/-- The end of SETTLING, 20 ms after the write completed (R180); nothing before. -/
def settlingEnd (s : State) : State :=
  if s.chassis.imageState = .settling ∧ 20 ≤ s.chassis.settleElapsed then
    setChassis { s.chassis with imageState := .ready } s
  else s

/-- The loss of power (R182): the part stops, and an image being written is left broken. -/
def losePower (s : State) : State :=
  match s.chassis.imageState, s.chassis.snapshot with
  | .writing, some c =>
    { s with
      powered := false
      draws := s.draws + 1
      chassis := { s.chassis with image := brokenImage s.draws s.chassis.image c } }
  | _, _ => { s with powered := false }

end Sys2Proof.Machine
end

