-- ==== Sys2Proof/Machine/Failsafe.lean ====
section
/-! DEFINITION. What a link's silence does (R22, R172), what a good frame does to its link (R23, R163, R172), and the silence comparison of chassis reset (R173). -/

namespace Sys2Proof.Machine

/-- Whether a link answers for a unit: it holds it, or the unit is unreserved and the link commanded it last (R22). -/
def answersFor (l : Link) (u : UnitId) (s : State) : Bool :=
  match s.disp.holders.get u with
  | some h => h = l
  | none => s.disp.last.get u = some l

/-- Whether DRIVE is affected by a link's silence: not while a tow link of another link exists (R22). -/
def driveAffected (l : Link) (s : State) : Bool :=
  answersFor l .drive s &&
    match s.winch.tow with
    | some t => t.owner = l
    | none => true

/-- The failsafe of a link (R22): the safe actions, the end of the link's tow link after any DONE of its winch
operation (R104), the link's patterns closed, and, when a unit is affected, the flag, the attention kind and
the notice. -/
def failsafe (l : Link) (s : State) : State :=
  let drive := driveAffected l s
  let steer := answersFor l .steer s
  let winch := answersFor l .winch s
  let lights := answersFor l .lights s
  let s1 := if drive then haltDrive .safeHold false s else s
  let s2 := if steer then { s1 with steer := steerSafe s1.chassis.profile s1.steer } else s1
  let s3 := if winch then winchStopAction s2 else s2
  let s4 := if ownsTow l s3 then endTow .failsafe s3 else s3
  let s5 := { s4 with lights := closeLink l s4.lights }
  if drive || steer || winch || lights then
    offer (.failsafe l (affectedByte drive steer winch lights))
      (postAll .failsafe (setPort l { s5.ports.get l with failsafeFlag := true } s5))
  else s5

/-- A link becomes SILENT: its timer stops, and failsafe is applied (R172). -/
def goSilent (l : Link) (s : State) : State :=
  failsafe l (setPort l { s.ports.get l with link := .silent, silence := none, failsafeFlag := false } s)

/-- Whether an ACTIVE link's running timer has reached its timeout (R172). -/
def silenceDue (l : Link) (s : State) : Bool :=
  let q := s.ports.get l
  let timeout := timeoutOf s.chassis.profile l
  decide (q.link = .active) && decide (timeout ≠ 0) &&
    match q.silence with
    | some e => decide (timeout ≤ e)
    | none => false

/-- The silence timeout of a link, when it is due; before, the event does not occur (R172; log entry 1). -/
def silenceTimeout (l : Link) (s : State) : State := if silenceDue l s then goSilent l s else s

/-- A good frame on a link: the timer reloaded; a SILENT link becomes ACTIVE with its flag cleared (R23, R163, R172). -/
def goodFrame (l : Link) (s : State) : State :=
  setPort l { s.ports.get l with
    silence := freshTimer (timeoutOf s.chassis.profile l), link := .active, failsafeFlag := false } s

/-- The silence timer of one link at chassis reset, against the reloaded timeout (R173). -/
def resetSilence (l : Link) (s : State) : State :=
  let q := s.ports.get l
  let timeout := timeoutOf s.chassis.profile l
  match q.link with
  | .silent => s
  | .active =>
    if timeout = 0 then setPort l { q with silence := none } s
    else match q.silence with
      | none => setPort l { q with silence := some 0 } s
      | some e => if timeout ≤ e then goSilent l s else s

end Sys2Proof.Machine
end

