-- ==== Sys2Proof/Machine/Startup.lean ====
section
/-! DEFINITION. Power-on (R184) and chassis reset (R185): the load of the image, the values each block takes, and the clock of the idle part. -/

namespace Sys2Proof.Machine

/-- The profile store after power-on: the loaded profile and status, the image as it stands (R184). -/
def chassisPowerOn (r : Loaded) (x : Chassis) : Chassis :=
  { Chassis.reset with profile := r.profile, image := x.image, status := r.status }

/-- Power-on (R184): the image is read, and every block takes its power-on values (R24, R48, R68, R79, R106, R121,
R134, R159, R174). The image, the queue and the count of free values remain. The factors start from the 1024 of R134,
where R129 speaks of 0 after CUTOFF "at power-on" (DESIGN CHOICE, log entry 41). -/
def powerOn (s : State) : State :=
  let r := readImage s.chassis.image
  let timer (l : Link) : Port := Port.reset (freshTimer (timeoutOf r.profile l))
  { pending := s.pending
    powered := true
    now := 0
    draws := s.draws
    disp := .reset
    ports := ⟨timer .p, timer .w, timer .s⟩
    drive := .reset
    wheels := ⟨.reset, .reset, .reset, .reset⟩
    steer := steerPowerOn r.profile
    winch := .reset
    supply := { Supply.reset with countUsed := r.profile.nat .cellCount }
    alloc := .reset
    lights := lightsPowerOn r.profile r.store r.table
    chassis := chassisPowerOn r s.chassis }

/-- A port at chassis reset: the notice queue and mask emptied, the lost flags cleared, the rest kept (R174). -/
def Port.chassisReset (q : Port) : Port :=
  { q with notices := [], offered := [], mask := 0, framesLost := false, noticesLost := false }

/-- Chassis reset (R185): the image read as at power-on, every block at its chassis reset values, RESTARTED posted to
emptied attention queues, and the silence timers compared with the reloaded timeouts. -/
def chassisResetAll (s : State) : State :=
  let r := readImage s.chassis.image
  let s1 : State :=
    { s with
      disp := .reset
      ports := s.ports.map fun _ q => q.chassisReset
      drive := driveChassisReset s.supply.stage
      wheels := s.wheels.map Channel.chassisReset
      steer := steerChassisReset s.steer
      winch := winchChassisReset s.winch
      alloc := allocChassisReset s.supply.stage s.alloc
      lights := lightsChassisReset r.profile r.store r.table s.lights
      chassis := { s.chassis with profile := r.profile, status := r.status, unsaved := false } }
  resetSilence .s (resetSilence .w (resetSilence .p s1))

/-- A running timer one ms on. -/
def tickTimer (t : Option Nat) : Option Nat := t.map (· + 1)

/-- One ms of time: the clock, the silence timers, the brake timer and the time in SETTLING advance. It is what a
powered part does on an empty queue (log entry 1). -/
def tick (s : State) : State :=
  if s.powered then
    { s with
      now := s.now + 1
      ports := s.ports.map fun _ q => { q with silence := tickTimer q.silence }
      drive := { s.drive with brakeTimer := tickTimer s.drive.brakeTimer }
      chassis := { s.chassis with
        settleElapsed :=
          if s.chassis.imageState = .settling then s.chassis.settleElapsed + 1 else s.chassis.settleElapsed } }
  else s

end Sys2Proof.Machine
end

