-- ==== Sys2Proof/Machine/Execution.lean ====
section
/-! DEFINITION. What the execution of a command answers (R8), the clamp flag of a reply, and the shared shapes of the command bodies. -/

namespace Sys2Proof.Machine

/-- The outcome of an execution (R8): GOOD with its reply, ACCEPTED with the kind of the operation it starts,
CHECK with its key, detail and value, or CONFLICT. -/
inductive Exec where
  | good (reply : List Byte) (s : State)
  | accepted (kind : LongKind) (reply : List Byte) (s : State)
  | check (reason : Reason) (value : Option Int)
  | conflict
  deriving DecidableEq, Repr

/-- A taken command's answer: its status, the reply of that status, and the state it leaves (R3, R167). -/
structure Answer where
  code : StatusCode
  reply : List Byte
  st : State
  deriving DecidableEq, Repr

/-- The clamped flag of a reply: whether the stored value differs from the value sent. -/
def clampedFlag (sent stored : Int) : Byte := flagByte (decide (sent ≠ stored))

/-- The motion computer of the part replaced. -/
def setDrive (x : Drive) (s : State) : State := { s with drive := x }

/-- The steering outputs of the part replaced. -/
def setSteer (x : Steer) (s : State) : State := { s with steer := x }

/-- The light engine of the part replaced. -/
def setLights (x : Lights) (s : State) : State := { s with lights := x }

/-- The dispatcher's records replaced. -/
def setDisp (x : DispatcherState) (s : State) : State := { s with disp := x }

/-- Whether the stage is CUTOFF. -/
def inCutoff (s : State) : Bool := s.supply.stage = .cutoff

end Sys2Proof.Machine
end

