-- ==== Sys2Proof/Machine/ChassisUnit.lean ====
section
/-! DEFINITION. The executions of unit CHASSIS's commands on the profile store (R176, R177, R181, R183, R185, R186). -/

namespace Sys2Proof.Machine

/-- The 9 bytes of IDENTIFY (R186). -/
def identity (s : State) : List Byte :=
  bytes2 0x0B7D ++ bytes2 0x0048
    ++ [1, byteOf s.chassis.status.code, flagByte s.chassis.unsaved, flagByte s.disp.chassisOp.isSome,
        byteOf s.chassis.imageState.code]

/-- IDENTIFY (R186). -/
def identifyBody (_l : Link) (_c : Command) (s : State) : Exec := .good (identity s) s

/-- The 17 bytes of PROFILE READ (R176). -/
def profileReadReply (f : Field) (p : Profile) : List Byte :=
  byteOf f.row.number :: (bytes4 (p.get f) ++ bytes4 f.row.low ++ bytes4 f.row.high ++ bytes4 f.row.default)

/-- PROFILE READ (R176). -/
def profileReadBody (_l : Link) (c : Command) (s : State) : Exec :=
  match Field.ofNumber (byteAt c.params 0).toNat with
  | none => .check (.illegal .fieldUnknown) none
  | some f => .good (profileReadReply f s.chassis.profile) s

/-- PROFILE_CHANGED posted to the other two masters when a write changes the value held (R179). -/
def postWhenChanged (l : Link) (f : Field) (v : Int) (s : State) : State :=
  if s.chassis.profile.get f = v then s else postOthers .profileChanged l s

/-- A pattern field marked for its source to restart when a write changes the value held (R156). -/
def restartWhenChanged (f : Field) (v : Int) (s : State) : State :=
  if s.chassis.profile.get f = v then s else setLights (patternRewritten f s.lights) s

/-- PROFILE WRITE (R177): the number, the clamp, the order rules, the store, and the effects at the write. -/
def profileWriteBody (l : Link) (c : Command) (s : State) : Exec :=
  match Field.ofNumber (byteAt c.params 0).toNat with
  | none => .check (.illegal .fieldUnknown) none
  | some f =>
    let sent := s32At c.params 1
    let v := clampField f sent
    if orderRulesFor f (s.chassis.profile.set f v) then
      .good (byteOf f.row.number :: (bytes4 v ++ [clampedFlag sent v]))
        (fieldWritten f (storeField f v (restartWhenChanged f v (postWhenChanged l f v s))))
    else .check (.illegal .orderViolation) none

/-- PROFILE COMMIT (R180, R181). -/
def profileCommitBody (_l : Link) (_c : Command) (s : State) : Exec :=
  if s.chassis.imageState = .settling then .check (.notReady .commitActive) none
  else .accepted .commit [] (startCommit s)

/-- PROFILE RESTORE (R180, R183). -/
def profileRestoreBody (_l : Link) (_c : Command) (s : State) : Exec :=
  if s.chassis.imageState = .settling then .check (.notReady .commitActive) none
  else
    let r := readImage s.chassis.image
    .good [byteOf r.status.code] (restoredEffects (postAll .profileChanged (takeLoaded r s)))

/-- CHASSIS RESET (R180, R185). -/
def chassisResetBody (_l : Link) (_c : Command) (s : State) : Exec :=
  if s.chassis.imageState = .settling then .check (.notReady .commitActive) none
  else .good [] (chassisResetAll s)

end Sys2Proof.Machine
end

