-- ==== Sys2Proof/Machine/DispatcherUnit.lean ====
section
/-! DEFINITION. The executions of the dispatcher commands (R9 to R11, R15, R21, R171). -/

namespace Sys2Proof.Machine

/-- A unit's holder replaced. -/
def setHolder (u : UnitId) (m : Option Link) (s : State) : State :=
  setDisp { s.disp with holders := s.disp.holders.set u m } s

/-- Whether a tow link of another link exists. -/
def towOfAnother (l : Link) (s : State) : Bool := s.winch.tow.isSome && !ownsTow l s

/-- Whether a held unit may be preempted: preempt yes, and the holder's link SILENT (R9, R10). -/
def mayPreempt (preempt : Bool) (h : Link) (s : State) : Bool :=
  preempt && decide ((s.ports.get h).link = .silent)

/-- RESERVE (R9, R10), by the first case of its table that applies. -/
def reserveBody (l : Link) (c : Command) (s : State) : Exec :=
  match reservableUnit c.unit with
  | none => .check (.illegal .wrongUnit) none
  | some u =>
    if u = .drive ∧ towOfAnother l s then .conflict
    else match s.disp.holders.get u with
      | none => .good [] (setHolder u (some l) s)
      | some h =>
        if h = l then .good [] s
        else if mayPreempt (byteAt c.params 0 = 1) h s then
          .good [] (postTo .reservationLost h (setHolder u (some l) s))
        else .conflict

/-- RELEASE (R11): the sender's hold given up; a RELEASE of WINCH by the owner of the tow link ends it. -/
def releaseBody (l : Link) (c : Command) (s : State) : Exec :=
  match reservableUnit c.unit with
  | none => .check (.illegal .wrongUnit) none
  | some u =>
    let s1 := if s.disp.holders.get u = some l then setHolder u none s else s
    .good [] (if u = .winch ∧ ownsTow l s then endTow .release s1 else s1)

/-- The value bytes of a sense record: present, then 4 bytes, 0 when absent (R15; log entry 39 for a payout). -/
def senseValue (v : Option Int) : List Byte := flagByte v.isSome :: field4 (v.getD 0)

/-- The 19 bytes of REPORT SENSE (R15). -/
def senseReport (l : Link) (s : State) : List Byte :=
  let x := s.disp.sense.get l
  let h := s.disp.holders
  let c := s.disp.last
  [byteOf x.reason.keyCode, byteOf x.reason.detailCode, x.unit, x.tag] ++ senseValue x.value
    ++ [byteOf (s.disp.attention.get l).length]
    ++ [h.drive, h.steer, h.winch, h.lights, h.chassis, c.drive, c.steer, c.winch, c.lights].map
        fun m => byteOf (masterCode m)

/-- REPORT SENSE (R15): the record as it stands, then cleared. -/
def reportSenseBody (l : Link) (_c : Command) (s : State) : Exec :=
  .good (senseReport l s) (writeSense l .clear s)

/-- SET NOTICES (R171). -/
def setNoticesBody (l : Link) (c : Command) (s : State) : Exec :=
  let mask := byteAt c.params 0
  .good [mask] (setPort l { s.ports.get l with mask := mask } s)

/-! ## LINK RESET (R21), in its order -/

/-- Step 1: the link's reservations released, its tow link ended when WINCH is among them. -/
def releaseLink (l : Link) (s : State) : State :=
  let s1 := setDisp { s.disp with holders := s.disp.holders.releaseAll l } s
  if s.disp.holders.winch = some l ∧ ownsTow l s then endTow .linkReset s1 else s1

/-- Whether a slot's operation belongs to a link. -/
def opOwnedBy (l : Link) (op : Option LongOp) : Bool :=
  match op with
  | some o => o.owner = some l
  | none => false

/-- Step 2 at the winch: a MOVE or REFERENCE of the link goes to IDLE and the slot is emptied. -/
def dropWinchOp (l : Link) (s : State) : State :=
  if opOwnedBy l s.disp.winchOp then dropOp .winch (setWinch s.winch.toIdle s) else s

/-- Step 2 at the lights: a transition of the link is dropped (R148) and the slot is emptied. -/
def dropLightsOp (l : Link) (s : State) : State :=
  if opOwnedBy l s.disp.lightsOp then
    dropOp .lights (setLights { s.lights with base := dropTransition s.lights.base } s)
  else s

/-- Step 2 at the chassis: a commit of the link goes on without an owner. -/
def disownCommit (l : Link) (s : State) : State :=
  if opOwnedBy l s.disp.chassisOp then
    setDisp { s.disp with chassisOp := s.disp.chassisOp.map fun o => { o with owner := none } } s
  else s

/-- Step 4: the link's notice queue and mask emptied, its lost flags cleared. -/
def Port.linkReset (q : Port) : Port :=
  { q with notices := [], offered := [], mask := 0, framesLost := false, noticesLost := false }

/-- Steps 5, 6 and 7: sense, attention and last commanders. -/
def resetRecords (l : Link) (d : DispatcherState) : DispatcherState :=
  { d with
    sense := d.sense.set l .clear
    attention := d.attention.set l [.linkReset]
    last := d.last.forget l }

/-- LINK RESET (R21). -/
def linkResetAll (l : Link) (s : State) : State :=
  let s1 := disownCommit l (dropLightsOp l (dropWinchOp l (releaseLink l s)))
  let s2 := setLights (closeLink l s1.lights) s1
  let s3 := setPort l (s2.ports.get l).linkReset s2
  setDisp (resetRecords l s3.disp) s3

/-- LINK RESET (R21). -/
def linkResetBody (l : Link) (_c : Command) (s : State) : Exec := .good [] (linkResetAll l s)

end Sys2Proof.Machine
end

