-- ==== Sys2Proof/Machine/DriveUnit.lean ====
section
/-! DEFINITION. The executions of unit DRIVE's commands (R45, R46, R47) and of STOP ALL (R20). -/

namespace Sys2Proof.Machine

/-- The throttle stored, and a drive in SAFE_HOLD moved to HOLDING (R39, R45). -/
def storeThrottle (t : Int) (d : Drive) : Drive :=
  { d with t := t, state := if d.state = .safeHold then .holding else d.state }

/-- A throttle taken by the drive: stored, and in SAFE_HOLD the drive enters HOLDING, by which the channels are
handed the hold request (R39, R42: "by any route"; DEDUCED, log entry 37). -/
def takeThrottle (t : Int) (s : State) : State :=
  let s1 := setDrive (storeThrottle t s.drive) s
  if s.drive.state = .safeHold then handHold false s1 else s1

/-- DRIVE SET (R45): refused while a wheel is latched, else the clamped throttle is taken. -/
def driveSetBody (_l : Link) (c : Command) (s : State) : Exec :=
  if wheelsOff s ≠ 0 then .check .wheelLatched (some (wheelsOff s))
  else
    let t := clampInt (-1000) 1000 (s16At c.params 0)
    .good (bytes2 t) (takeThrottle t s)

/-- DRIVE HOLD (R46): the tow link ends, then the drive is halted into HOLDING with the latch release. In HOLDING
with no wheel latched, where R46 says that nothing changes, its steps 2 and 4 are carried out all the same: a
stored throttle becomes 0 and a channel in HOLD_ACTIVE goes to HOLD (DEDUCED, log entry 36). -/
def driveHoldBody (_l : Link) (_c : Command) (s : State) : Exec :=
  .good [] (haltDrive .holding true (endTow .driveHold s))

/-- The 39 bytes of REPORT DRIVE (R47). -/
def driveReport (s : State) : List Byte :=
  let d := s.drive
  [byteOf d.state.code] ++ bytes2 d.t ++ bytes2 d.bCmd ++ bytes2 d.b
    ++ d.targets.list.flatMap bytes2 ++ (s.wheels.list.flatMap fun c => bytes2 c.m)
    ++ (d.wheelStates.list.map fun x => byteOf x.code)
    ++ bytes2 d.gUsed ++ bytes2 d.fLeft ++ bytes2 d.fRight ++ bytes4 d.kappa
    ++ [flagByte d.braking, flagByte d.reverse]

/-- REPORT DRIVE (R47). -/
def reportDriveBody (_l : Link) (_c : Command) (s : State) : Exec := .good (driveReport s) s

/-- STOP ALL (R20): the winch stops, with any DONE handed before a tow link's end (R104), and the drive takes
its hold action. -/
def stopAllBody (_l : Link) (_c : Command) (s : State) : Exec :=
  .good [] (stopDrive (endTow .stopAll (winchStopAction s)))

end Sys2Proof.Machine
end

