-- ==== Sys2Proof/Machine/LightsUnit.lean ====
section
/-! DEFINITION. The executions of unit LIGHTS's commands (R136, R139, R143, R150, R151, R158). -/

namespace Sys2Proof.Machine

/-- The 24 channel values a block carries from its byte 2 on (R136). -/
def frameFrom (block : List Byte) : Frame := chanVec fun ch => byteAt block (2 + ch)

/-- LIGHT WRITE (R136, R137); every one that is executed with GOOD sets the unsaved flag (R179). -/
def lightWriteBody (l : Link) (c : Command) (s : State) : Exec :=
  let index := (byteAt c.params 0).toNat
  if 64 ≤ index then .check (.illegal .badFrameIndex) none
  else
    .good [byteOf index, byteOf (includingCount index s.lights)]
      (markUnsaved (setLights
        (writeFrame l index (byteAt c.params 1 = 1) (frameFrom c.params) s.lights) s))

/-- The end action a code names: LOOP 0, ONCE 1 (R139). -/
def endActionOf (b : Byte) : EndAction := if b = 0 then .loop else .once

/-- A record's bytes: defined, first frame, frame count, step time, end action, open-by (R139, R158). -/
def Record.bytes (r : Record) : List Byte :=
  [flagByte r.defn.defined, byteOf r.defn.first, byteOf r.defn.count, byteOf r.defn.stepTime,
   byteOf r.defn.action.code, byteOf (masterCode r.openBy)]

/-- The record a LIGHT DEFINE stores, or why it is refused, after the check of the pattern number (R139). The
last item is the clamped flag of the step time. -/
def definedRecord (block : List Byte) (old : Record) : Except IllegalDetail (Record × Bool) :=
  let at' (i : Nat) : Nat := (byteAt block i).toNat
  if at' 1 = 0 then .ok (⟨.undefined, none⟩, false)
  else if 63 < at' 2 then .error .badFrameIndex
  else if at' 3 = 0 ∨ 64 < at' 2 + at' 3 then .error .patternRange
  else
    let step := clampNat 1 100 (at' 4)
    .ok (⟨⟨true, at' 2, at' 3, step, endActionOf (byteAt block 5)⟩, old.openBy⟩, decide (step ≠ at' 4))

/-- LIGHT DEFINE (R139); every one that is executed with GOOD sets the unsaved flag (R179). -/
def lightDefineBody (_l : Link) (c : Command) (s : State) : Exec :=
  let n := (byteAt c.params 0).toNat
  if 15 < n then .check (.illegal .patternUndefined) none
  else match definedRecord c.params (s.lights.record n) with
    | .error d => .check (.illegal d) none
    | .ok (r, clamped) =>
      .good (r.bytes ++ [flagByte clamped]) (markUnsaved (setLights (setRecord n r s.lights) s))

/-! ## SHOW PATTERN -/

/-- The staged source of a SHOW PATTERN whose source is allowed, and whether a used parameter was clamped (R143).
A parameter that R143 says is ignored is neither stored nor clamped. -/
def stagedOf (block : List Byte) (x : Lights) : Staged × Bool :=
  let at' (i : Nat) : Nat := (byteAt block i).toNat
  let start := u16At block 5
  let n := clampNat 1 64 (at' 3)
  let fill := min (at' 4) 254
  let source : Source × Nat × Bool :=
    if at' 0 = 0 then
      let step := min start ((x.defn (at' 1)).count - 1)
      (.pattern (at' 1), step, decide (step ≠ start))
    else (.level (min (at' 1) 254), 0, decide (254 < at' 1))
  let trans : Transition × Bool :=
    if at' 2 = 0 then (.cut, false)
    else if at' 2 = 1 then (.fade n, decide (n ≠ at' 3))
    else (.fill n fill, decide (n ≠ at' 3) || decide (fill ≠ at' 4))
  (⟨source.1, source.2.1, trans.1⟩, source.2.2 || trans.2)

/-- A source's kind, 0 pattern or 1 level, and value (R158). -/
def Source.bytes (x : Source) : List Byte :=
  match x with
  | .pattern n => [0, byteOf n]
  | .level v => [1, byteOf v]

/-- A transition's code, n and fill level; what a transition does not have reads 0 (R142, R166). -/
def Transition.bytes (t : Transition) : List Byte :=
  match t with
  | .cut => [0, 0, 0]
  | .fade n => [1, byteOf n, 0]
  | .fill n v => [2, byteOf n, byteOf v]

/-- A staged source's fields, in the order of SHOW PATTERN's parameters (R143, R158). -/
def Staged.bytes (g : Staged) : List Byte := g.source.bytes ++ g.transition.bytes ++ [byteOf g.startStep]

/-- Whether SHOW PATTERN's source is allowed: a level, or a defined pattern (R143). -/
def sourceAllowed (block : List Byte) (x : Lights) : Bool :=
  byteAt block 0 ≠ 0 || (x.defn (byteAt block 1).toNat).defined

/-- The superseding of a FADE or FILL in the LIGHTS slot (R19, R144): its DONE CANCELLED, and a fade in flight
marked ended. -/
def supersede (s : State) : State :=
  match s.disp.lightsOp with
  | some _ =>
    let s1 := endOp .lights .cancelled s
    setLights { s1.lights with base := endFade s1.lights.base } s1
  | none => s

/-- SHOW PATTERN (R143, R144). -/
def showPatternBody (_l : Link) (c : Command) (s : State) : Exec :=
  if sourceAllowed c.params s.lights then
    let g := stagedOf c.params s.lights
    let s1 := supersede s
    let s2 := setLights { s1.lights with base := { s1.lights.base with staged := some g.1 } } s1
    let reply := g.1.bytes ++ [flagByte g.2]
    match g.1.transition with
    | .cut => .good reply s2
    | .fade _ => .accepted .fade reply s2
    | .fill _ _ => .accepted .fill reply s2
  else .check (.illegal .patternUndefined) none

/-! ## Overlay and automatic signals -/

/-- The pattern an OVERLAY SET byte names, 255 for none; no value when the byte names no defined pattern (R150). -/
def overlayPattern (b : Byte) (x : Lights) : Option (Option Nat) :=
  if b.toNat = 255 then some none
  else if b.toNat < 16 ∧ (x.defn b.toNat).defined then some (some b.toNat)
  else none

/-- OVERLAY SET (R150). -/
def overlaySetBody (_l : Link) (c : Command) (s : State) : Exec :=
  match overlayPattern (byteAt c.params 0) s.lights with
  | none => .check (.illegal .patternUndefined) none
  | some pattern =>
    .good [] (setLights { s.lights with
      overlay := { s.lights.overlay with
        pattern := pattern, mirrored := byteAt c.params 1 = 1, restart := true }
      mode := .manual } s)

/-- AUTO selected from MANUAL: every automatic source inactive (R151). What REPORT LIGHTS shows of them stays as the
latest boundary left it (R158). -/
def toAuto (x : Lights) : Lights :=
  match x.mode with
  | .auto => x
  | .manual => { x with mode := .auto
                        indicator := { x.indicator with active := false }
                        brake := { x.brake with active := false }
                        reverse := { x.reverse with active := false } }

/-- MANUAL selected from AUTO, with the stored overlay started at the next boundary (R151). -/
def toManual (x : Lights) : Lights :=
  match x.mode with
  | .auto => { x with mode := .manual, overlay := { x.overlay with restart := true } }
  | .manual => x

/-- LIGHT AUTO (R151). -/
def lightAutoBody (_l : Link) (c : Command) (s : State) : Exec :=
  .good [] (setLights (if byteAt c.params 0 = 1 then toAuto s.lights else toManual s.lights) s)

/-! ## REPORT LIGHTS -/

/-- SIGNAL mode codes (R158). -/
def SignalMode.code (m : SignalMode) : Nat :=
  match m with
  | .auto => 0
  | .manual => 1

/-- The fade's five fields: present, kind, k, n, ended (R158). -/
def fadeBytes (f : Option Fade) : List Byte :=
  match f with
  | some f =>
    [1, (match f.kind with | .fade => 1 | .fill => 2), byteOf f.k, byteOf f.n, flagByte f.ended]
  | none => [0, 0, 0, 0, 0]

/-- The staged source's seven fields (R158). -/
def stagedBytes (g : Option Staged) : List Byte :=
  match g with
  | some g => 1 :: g.bytes
  | none => [0, 0, 0, 0, 0, 0, 0]

/-- The slot-in-use code of REPORT LIGHTS (R158). -/
def lightsSlotCode (d : DispatcherState) : Nat :=
  match d.lightsOp with
  | some op => if op.kind = .fill then 2 else 1
  | none => 0

/-- The 29 bytes of view STATE (R158). The activities are those of the latest boundary. During a fade the live source
is the one the switch found (DESIGN CHOICE, log entry 42). -/
def lightsReport (s : State) : List Byte :=
  let x := s.lights
  x.base.live.source.bytes ++ [byteOf x.base.live.play.step, byteOf x.base.live.play.countdown]
    ++ stagedBytes x.base.staged ++ fadeBytes x.base.fade
    ++ [byteOf (lightsSlotCode s.disp), byteOf x.mode.code,
        flagByte x.shown.indicator, flagByte x.shown.brake, flagByte x.shown.reverse, flagByte x.mirrored,
        byteOf (x.overlay.pattern.getD 255), flagByte x.overlay.mirrored, byteOf (alertCode x.alert.selected)]
    ++ bytes2 x.iLest ++ bytes2 x.gUsed

/-- REPORT LIGHTS (R158), by view. -/
def reportLightsBody (_l : Link) (c : Command) (s : State) : Exec :=
  let index := (byteAt c.params 1).toNat
  match (byteAt c.params 0).toNat with
  | 0 => .good (lightsReport s) s
  | 1 => .good (s.lights.composed.toList.map byteOf) s
  | 2 => .good (s.lights.outputs.toList.map byteOf) s
  | 3 =>
    if 15 < index then .check (.illegal .patternUndefined) none
    else .good (s.lights.record index).bytes s
  | _ =>
    if 63 < index then .check (.illegal .badFrameIndex) none
    else .good (s.lights.frame index).toList s

end Sys2Proof.Machine
end

