-- ==== Sys2Proof/Machine/SteerUnit.lean ====
section
/-! DEFINITION. The executions of unit STEER's commands (R74 to R77). -/

namespace Sys2Proof.Machine

/-- STEER SET (R74). -/
def steerSetBody (_l : Link) (c : Command) (s : State) : Exec :=
  let sent := s16At c.params 0
  let v := clampInt (-1000) 1000 sent
  .good (bytes2 v ++ [clampedFlag sent v]) (setSteer { s.steer with s := v } s)

/-- STEER MODE (R75). -/
def steerModeBody (_l : Link) (c : Command) (s : State) : Exec :=
  let mode := steerModeOf (byteAt c.params 0).toNat
  let sent := u16At c.params 1
  let r := min sent 1000
  .good ([byteOf mode.code] ++ bytes2 r ++ [clampedFlag sent r])
    (setSteer { s.steer with mode := mode, r := r } s)

/-- The trim field an axle code names: FRONT 0, REAR 1 (R76). -/
def trimField (axle : Byte) : Field := if axle = 0 then .frontTrim else .rearTrim

/-- STEER TRIM (R76): the clamped trim goes to its working profile field; no attention kind is posted. -/
def steerTrimBody (_l : Link) (c : Command) (s : State) : Exec :=
  let sent := s16At c.params 1
  let v := clampInt (-150) 150 sent
  .good (bytes2 v ++ [clampedFlag sent v]) (storeField (trimField (byteAt c.params 0)) v s)

/-- The 26 bytes of REPORT STEER (R77). -/
def steerReport (s : State) : List Byte :=
  let x := s.steer
  let p := s.chassis.profile
  bytes2 x.s ++ [byteOf x.mode.code] ++ bytes2 x.r
    ++ bytes2 x.demand.front ++ bytes2 x.demand.rear ++ bytes2 x.delta.front ++ bytes2 x.delta.rear
    ++ bytes2 x.pulse.front ++ bytes2 x.pulse.rear ++ [byteOf x.clamp.front.code, byteOf x.clamp.rear.code]
    ++ bytes2 (p.get .frontTrim) ++ bytes2 (p.get .rearTrim) ++ bytes2 x.current
    ++ [byteOf (p.nat .failsafeSteering)]

/-- REPORT STEER (R77). -/
def reportSteerBody (_l : Link) (_c : Command) (s : State) : Exec := .good (steerReport s) s

end Sys2Proof.Machine
end

