-- ==== Sys2Proof/Machine/SupplyUnit.lean ====
section
/-! DEFINITION. The executions of unit SUPPLY's commands (R115, R120). -/

namespace Sys2Proof.Machine

/-- Whether V_comp allows a clear: at least T_LIMIT + H (R115). -/
def clearAllowed (s : State) : Bool :=
  decide (s.chassis.profile.nat .thresholdLimit + s.chassis.profile.nat .hysteresis ≤ s.supply.vComp)

/-- SUPPLY CLEAR (R115). -/
def supplyClearBody (_l : Link) (_c : Command) (s : State) : Exec :=
  match s.supply.stage with
  | .cutoff => if clearAllowed s then .good [] (changeStage .limit .clear s) else .check (.notReady .cutoff) none
  | .normal | .conserve | .limit => .good [] s

/-- The 47 bytes of REPORT SUPPLY (R120). The serving order is in none of them: R127 says that in CUTOFF it is set
"and reported", and R133 and the list of R120 leave it out (DESIGN CHOICE, log entry 40). The factors are those of
the latest allocation, or those a chassis reset has set since (DESIGN CHOICE, log entry 44). -/
def supplyReport (s : State) : List Byte :=
  let x := s.supply
  let a := s.alloc
  [byteOf x.countUsed] ++ bytes2 x.cells.v1 ++ bytes2 x.cells.v2 ++ bytes2 x.cells.v3 ++ bytes2 x.cells.v4
    ++ bytes2 x.iPack ++ bytes2 x.vMin ++ bytes2 x.vComp ++ [byteOf x.x.code, byteOf x.stage.code]
    ++ bytes2 (min x.down 5000 : Nat)
    ++ [flagByte x.candidate.isSome, byteOf ((x.candidate.map Stage.code).getD 0)]
    ++ bytes2 (min x.up 10000 : Nat)
    ++ bytes2 a.iSteer ++ bytes4 a.iD ++ bytes2 a.iW ++ bytes2 a.iLest
    ++ bytes2 a.iAvail ++ bytes2 a.capD ++ bytes2 a.capW ++ bytes2 a.capL
    ++ bytes2 a.gD ++ bytes2 a.gW ++ bytes2 a.gL

/-- REPORT SUPPLY (R120). -/
def reportSupplyBody (_l : Link) (_c : Command) (s : State) : Exec := .good (supplyReport s) s

end Sys2Proof.Machine
end

