-- ==== Sys2Proof/Machine/WinchUnit.lean ====
section
/-! DEFINITION. The executions of unit WINCH's commands (R87 to R89, R92, R97, R102, R103, R105). -/

namespace Sys2Proof.Machine

/-- The bridge from a command until the next winch period (R87): the brake from FREE, engaged at the command, and
from IDLE and LOAD_HOLD, where it is held; from a driven state the duty of the previous period. R87 says so of
WINCH RUN; that WINCH TO LENGTH and WINCH REFERENCE do the same is DEDUCED (log entry 20). -/
def engaged (w : Winch) : Bridge :=
  match w.state with
  | .free | .idle | .loadHold => .brake
  | .runIn | .runOut | .move | .reference => w.bridge

/-- A run entered or re-speeded (R87). The load timer is 0 on entry, and runs on in a RUN_IN that is only
re-speeded, which is no entry (R95). -/
def enterRun (dir : LineDir) (speed : Nat) (w : Winch) : Winch :=
  match dir with
  | .inward => { w with state := .runIn, runSpeed := speed, note := .none, bridge := engaged w
                        loadTimer := if w.state = .runIn then w.loadTimer else 0 }
  | .outward => { w with state := .runOut, runSpeed := speed, note := .none, bridge := engaged w, loadTimer := 0 }

/-- A run of speed 0: IDLE, the run speed 0 (R87). The bridge is that of any WINCH RUN until the next winch
period (log entry 20). -/
def runToIdle (w : Winch) : Winch :=
  { w with state := .idle, runSpeed := 0, loadTimer := 0, note := .none, bridge := engaged w }

/-- The direction a direction code names: IN 0, OUT 1 (R87). -/
def lineDirOf (b : Byte) : LineDir := if b = 0 then .inward else .outward

/-- The reply of WINCH RUN: stored state, run speed, clamped flag (R87). -/
def runReply (sent : Nat) (speed : Nat) (w : Winch) : List Byte :=
  [byteOf w.state.code] ++ bytes2 w.runSpeed ++ [clampedFlag sent speed]

/-- Whether the payout limit binds: referenced, with a payout of at least L_max (R84, R87). -/
def atPayoutLimit (s : State) : Bool :=
  s.winch.referenced && decide (s.chassis.profile.get .payoutLimit ≤ payoutNow s)

/-- WINCH RUN (R87), by the first case of its table that applies. -/
def winchRunBody (_l : Link) (c : Command) (s : State) : Exec :=
  let dir := lineDirOf (byteAt c.params 0)
  let sent := u16At c.params 1
  let speed := min sent 1000
  if dir = .inward ∧ s.winch.state = .loadHold then
    .check (.limit .loadHold) (some s.winch.current)
  else if dir = .outward ∧ atPayoutLimit s then
    .check (.limit .payoutMax) (some (payoutNow s))
  else
    let w := if speed = 0 then runToIdle s.winch else enterRun dir speed s.winch
    .good (runReply sent speed w) (setWinch w s)

/-- WINCH STOP (R88): every state goes to IDLE with the brake at the command; a MOVE or REFERENCE ends with
CANCELLED. -/
def winchStopBody (_l : Link) (_c : Command) (s : State) : Exec :=
  .good [] (endWinchOp .cancelled s)

/-- The direction of a MOVE to a target (R89). -/
def moveDirTo (target : Nat) (s : State) : LineDir :=
  if (target : Int) ≤ payoutNow s then .inward else .outward

/-- WINCH TO LENGTH (R89). -/
def winchToLengthBody (_l : Link) (c : Command) (s : State) : Exec :=
  let sent := u16At c.params 0
  let target := min sent (s.chassis.profile.nat .payoutLimit)
  let asked := min (u16At c.params 2) 1000
  let speed := if asked = 0 then s.chassis.profile.nat .slowSpeed else asked
  let dir := moveDirTo target s
  if inCutoff s then .check (.notReady .cutoff) none
  else if s.winch.referenced = false then .check (.notReady .unreferenced) none
  else if dir = .inward ∧ s.winch.state = .loadHold then .check (.limit .loadHold) (some s.winch.current)
  else
    .accepted .move (bytes2 target ++ [byteOf (lineDirCode dir), clampedFlag sent target])
      (setWinch { s.winch with
        state := .move
        runSpeed := speed
        moveTarget := some target
        moveDir := some dir
        note := .none
        loadTimer := 0
        bridge := engaged s.winch } s)

/-- WINCH REFERENCE (R92). The run speed is not named by the rule and is left as it was (DEDUCED, log entry 22). Where the
stage is CUTOFF and the winch is in LOAD_HOLD at once, the refusal is that of CUTOFF: R92 gives no precedence between its
two refusals (DESIGN CHOICE, log entry 51). -/
def winchReferenceBody (_l : Link) (_c : Command) (s : State) : Exec :=
  if inCutoff s then .check (.notReady .cutoff) none
  else if s.winch.state = .loadHold then .check (.limit .loadHold) (some s.winch.current)
  else
    .accepted .reference []
      (setWinch { s.winch with
        state := .reference
        refTimer := 0
        loadTimer := 0
        note := .none
        bridge := engaged s.winch } s)

/-- WINCH FREE on: every state the busy step lets through goes to FREE with the bridge open (R97). -/
def winchFreeOn (w : Winch) : Winch :=
  if w.state = .free then w else { w with state := .free, bridge := .opened, runSpeed := 0, loadTimer := 0 }

/-- WINCH FREE off: FREE goes to IDLE with the brake engaged (R97). -/
def winchFreeOff (w : Winch) : Winch :=
  if w.state = .free then { w with state := .idle, bridge := .brake } else w

/-- WINCH FREE (R97). -/
def winchFreeBody (_l : Link) (c : Command) (s : State) : Exec :=
  .good [] (setWinch (if byteAt c.params 0 = 1 then winchFreeOn s.winch else winchFreeOff s.winch) s)

/-- TOW ASSIST on (R102), by the first case of its table that applies. -/
def towAssistOnBody (l : Link) (s : State) : Exec :=
  if ownsTow l s then .good [] s
  else if s.disp.holders.winch ≠ some l then .conflict
  else if s.disp.holders.drive ≠ none ∧ s.disp.holders.drive ≠ some l then .conflict
  else if inCutoff s then .check (.notReady .cutoff) none
  else .good [] (createTow l s)

/-- TOW ASSIST off (R103): the tow link, when one exists, ends with cause OFF. -/
def towAssistOffBody (s : State) : Exec := .good [] (endTow .off s)

/-- TOW ASSIST, on 1 or off 0 (R102, R103). -/
def towAssistBody (l : Link) (c : Command) (s : State) : Exec :=
  if byteAt c.params 0 = 1 then towAssistOnBody l s else towAssistOffBody s

/-- The slot-in-use code of REPORT WINCH (R105). -/
def winchSlotCode (d : DispatcherState) : Nat :=
  match d.winchOp with
  | some op => if op.kind = .reference then 2 else 1
  | none => 0

/-- The tow link's fields of REPORT WINCH: present, owner, age held at 65535 (R105). -/
def towFields (s : State) : List Byte :=
  match s.winch.tow with
  | some t => [1, byteOf (linkIndex t.owner)] ++ bytes2 (min (s.now - t.created) 65535 : Nat)
  | none => [0, 0] ++ bytes2 0

/-- The 32 bytes of REPORT WINCH (R105). A payout in mm beyond signed 32 bits is sent as a free value (log entry
39). -/
def winchReport (s : State) : List Byte :=
  let w := s.winch
  [byteOf w.state.code, flagByte w.referenced] ++ field4 (payoutNow s) ++ bytes4 w.count ++ bytes4 w.speed
    ++ bytes2 w.current ++ bytes2 w.runSpeed ++ bytes2 w.duty
    ++ [flagByte w.moveTarget.isSome] ++ bytes2 (w.moveTarget.getD 0)
    ++ [byteOf (lineDirCode (w.moveDir.getD .inward)), byteOf (winchSlotCode s.disp), byteOf w.note.code]
    ++ towFields s ++ bytes2 w.gUsed

/-- REPORT WINCH (R105). -/
def reportWinchBody (_l : Link) (_c : Command) (s : State) : Exec := .good (winchReport s) s

end Sys2Proof.Machine
end

