-- ==== Sys2Proof/Machine/Dispatcher.lean ====
section
/-! DEFINITION. The dispatcher's screening of a taken command (R3 to R8, R12, R17) and a port's reception of bytes, frames and commands (R161, R163, R164). -/

namespace Sys2Proof.Machine

/-! ## The five steps of screening (R3) -/

/-- Whether a command passes the attention step whatever the queue holds: REPORT SENSE and STOP ALL (R4). -/
def attentionExempt (c : Command) : Bool :=
  c.code == CmdName.reportSense.row.code || c.code == CmdName.stopAll.row.code

/-- The kind the attention step delivers, if it delivers one (R4). -/
def attentionDue (l : Link) (c : Command) (s : State) : Option Attention :=
  if attentionExempt c then none else (s.disp.attention.get l).head?

/-- A refusal with its sense record (R14). -/
def refuse (l : Link) (c : Command) (code : StatusCode) (r : Reason) (v : Option Int) (s : State) : Answer :=
  ⟨code, [], writeSense l ⟨r, c.unit, c.tag, v⟩ s⟩

/-- The ATTEND answer: the oldest kind removed from the queue and written to the sense record (R4). -/
def attend (l : Link) (c : Command) (k : Attention) (s : State) : Answer :=
  refuse l c .attend (.attention k) none
    (setDisp { s.disp with attention := s.disp.attention.set l (s.disp.attention.get l).tail } s)

/-- The command a frame names, or the detail the validity step refuses it with (R5). -/
def validity (c : Command) : Except IllegalDetail CmdName :=
  match CmdName.ofCode c.code with
  | none => .error .unknownCommand
  | some n =>
    if unitFits n c.unit then
      if blockFits n c.params then .ok n else .error .badLength
    else .error .wrongUnit

/-- Whether the reservation step refuses the command: a mutating command to a unit another master holds (R6). -/
def heldByAnother (l : Link) (n : CmdName) (s : State) : Bool :=
  match n.row.cls, n.row.target with
  | .mutating, some u =>
    match s.disp.holders.get u with
    | some h => h ≠ l
    | none => false
  | _, _ => false

/-- Whether the busy step refuses the command (R7). -/
def busy (n : CmdName) (c : Command) (s : State) : Bool :=
  match n with
  | .winchRun | .winchToLength | .winchReference | .winchFree => s.disp.winchOp.isSome
  | .towAssist => s.disp.winchOp.isSome && byteAt c.params 0 == 1
  | .profileWrite | .profileRestore | .profileCommit | .chassisReset | .lightWrite | .lightDefine =>
    s.disp.chassisOp.isSome
  | .driveSet => s.winch.tow.isSome
  | _ => false

/-- Whether a command would start a long operation (R8). -/
def startsLong (n : CmdName) (c : Command) : Bool :=
  match n with
  | .winchToLength | .winchReference | .profileCommit => true
  | .showPattern => byteAt c.params 2 != 0
  | _ => false

/-- Whether a slot holds an operation of a link with a tag. -/
def slotTagged (l : Link) (tag : Byte) (op : Option LongOp) : Bool :=
  match op with
  | some o => decide (o.owner = some l) && decide (o.tag = tag)
  | none => false

/-- Whether the tag check refuses the command: the sender's operation in another unit's slot carries its tag (R8). -/
def tagClash (l : Link) (n : CmdName) (c : Command) (s : State) : Bool :=
  startsLong n c && [UnitId.winch, .lights, .chassis].any fun u =>
    decide (n.row.target ≠ some u) && slotTagged l c.tag (s.disp.op u)

/-- The unit's execution of a command (R8). -/
def runBody (n : CmdName) (l : Link) (c : Command) (s : State) : Exec :=
  match n with
  | .identify => identifyBody l c s
  | .chassisReset => chassisResetBody l c s
  | .profileRead => profileReadBody l c s
  | .profileWrite => profileWriteBody l c s
  | .profileCommit => profileCommitBody l c s
  | .profileRestore => profileRestoreBody l c s
  | .linkReset => linkResetBody l c s
  | .reserve => reserveBody l c s
  | .release => releaseBody l c s
  | .reportSense => reportSenseBody l c s
  | .setNotices => setNoticesBody l c s
  | .driveSet => driveSetBody l c s
  | .driveHold => driveHoldBody l c s
  | .reportDrive => reportDriveBody l c s
  | .steerSet => steerSetBody l c s
  | .steerMode => steerModeBody l c s
  | .steerTrim => steerTrimBody l c s
  | .reportSteer => reportSteerBody l c s
  | .winchRun => winchRunBody l c s
  | .winchStop => winchStopBody l c s
  | .winchToLength => winchToLengthBody l c s
  | .winchReference => winchReferenceBody l c s
  | .winchFree => winchFreeBody l c s
  | .towAssist => towAssistBody l c s
  | .reportWinch => reportWinchBody l c s
  | .lightWrite => lightWriteBody l c s
  | .lightDefine => lightDefineBody l c s
  | .showPattern => showPatternBody l c s
  | .overlaySet => overlaySetBody l c s
  | .lightAuto => lightAutoBody l c s
  | .reportLights => reportLightsBody l c s
  | .reportSupply => reportSupplyBody l c s
  | .supplyClear => supplyClearBody l c s
  | .stopAll => stopAllBody l c s

/-- The sender made last commander of the unit of a mutating command executed with GOOD or ACCEPTED (R12). -/
def markCommander (l : Link) (n : CmdName) (s : State) : State :=
  match n.row.cls, n.row.target with
  | .mutating, some u => setDisp { s.disp with last := s.disp.last.set u l } s
  | _, _ => s

/-- The unit's slot filled at an acceptance (R17). -/
def fillOp (l : Link) (n : CmdName) (kind : LongKind) (tag : Byte) (s : State) : State :=
  match n.row.target with
  | some u => setDisp (s.disp.setOp u (some ⟨kind, some l, tag, s.now⟩)) s
  | none => s

/-- The answer an execution gives (R8, R12, R17). -/
def settle (l : Link) (n : CmdName) (c : Command) (s : State) (e : Exec) : Answer :=
  match e with
  | .good reply s1 => ⟨.good, reply, markCommander l n s1⟩
  | .accepted kind reply s1 => ⟨.accepted, reply, markCommander l n (fillOp l n kind c.tag s1)⟩
  | .check r v => refuse l c .check r v s
  | .conflict => ⟨.conflict, [], s⟩

/-- The execution step (R8). -/
def execute (l : Link) (n : CmdName) (c : Command) (s : State) : Answer :=
  if tagClash l n c s then refuse l c .check .cancelled none s
  else settle l n c s (runBody n l c s)

/-- The screening of a taken command: attention, validity, reservation, busy, execution (R3). -/
def screen (l : Link) (c : Command) (s : State) : Answer :=
  match attentionDue l c s with
  | some k => attend l c k s
  | none =>
    match validity c with
    | .error d => refuse l c .check (.illegal d) none s
    | .ok n =>
      if heldByAnother l n s then ⟨.conflict, [], s⟩
      else if busy n c s then ⟨.busy, [], s⟩
      else execute l n c s

/-! ## The command slot (R164) -/

/-- A decided status placed in the port's status position (R167). -/
def placeStatus (l : Link) (tag : Byte) (a : Answer) : State :=
  setPort l { a.st.ports.get l with status := some ⟨tag, a.code, a.reply⟩ } a.st

/-- A command placed in the port's empty slot, and taken (R164). -/
def take (l : Link) (c : Command) (s : State) : State :=
  placeStatus l c.tag (screen l c (setPort l { s.ports.get l with slot := some c } s))

/-- A good command frame on a link: the link's timer reloaded, then the command taken, or discarded with frames-lost
set when the slot is occupied (R163, R164). -/
def arrive (l : Link) (c : Command) (s : State) : State :=
  let s1 := goodFrame l s
  match (s1.ports.get l).slot with
  | some _ => setPort l { s1.ports.get l with framesLost := true } s1
  | none => take l c s1

/-! ## Reception (R160, R161, R163) -/

/-- The body length the assembly buffer announces. -/
def announced (buffer : List Byte) : Nat := (byteAt buffer 0).toNat

/-- The port's assembly after a byte, and the buffer of the frame that the byte completes, if it completes one
(R161). -/
def Port.assemble (b : Byte) (q : Port) : Port × Option (List Byte) :=
  match q.assembly with
  | .hunt => (if b = 0xC5 then { q with assembly := .length, buffer := [] } else q, none)
  | .length =>
    if 4 ≤ b.toNat ∧ b.toNat ≤ 52 then ({ q with assembly := .body, buffer := [b] }, none)
    else if b = 0xC5 then (q, none)
    else ({ q with assembly := .hunt, buffer := [] }, none)
  | .body =>
    let buffer := q.buffer ++ [b]
    (if announced buffer + 1 ≤ buffer.length then { q with assembly := .check, buffer := buffer }
      else { q with buffer := buffer }, none)
  | .check =>
    let buffer := q.buffer ++ [b]
    if announced buffer + 3 ≤ buffer.length then ({ q with assembly := .hunt, buffer := [] }, some buffer)
    else ({ q with buffer := buffer }, none)

/-- A completed frame (R163): discarded when its check fails; a command frame arrives at the slot; any other good
frame reloads the timer alone. -/
def completeFrame (l : Link) (buffer : List Byte) (s : State) : State :=
  if frameGood buffer then
    if byteAt (frameBody buffer) 0 = 1 then arrive l (commandOf (frameBody buffer)) s else goodFrame l s
  else s

/-- A byte received with its stop bit high (R161). -/
def receiveByte (l : Link) (b : Byte) (s : State) : State :=
  let r := (s.ports.get l).assemble b
  let s1 := setPort l r.1 s
  match r.2 with
  | some buffer => completeFrame l buffer s1
  | none => s1

/-- The frame being received abandoned, by a broken byte or a gap of more than 1 ms; nothing in HUNT (R160, R161). -/
def abandonFrame (l : Link) (s : State) : State :=
  setPort l { s.ports.get l with assembly := .hunt, buffer := [] } s

/-- The end of the frame on the transmit line: the transmitter is free, and a sent status empties the command slot
(R164, R168). -/
def Port.frameEnd (q : Port) : Port :=
  match q.tx with
  | some f => { q with tx := none, slot := if f.isStatus then none else q.slot }
  | none => q

end Sys2Proof.Machine
end

