-- ==== Sys2Proof/Machine/CommandMeanings.lean ====
section
/-! DEFINITION. The meanings of the command rows: a good command frame of the row's code completes on a link, and the command is taken and screened (R3, R164). One definition per row. -/

namespace Sys2Proof.Machine

/-- The effect of the arrival of a command frame with a given code (log entry 17). -/
def commandEvent (n : CmdName) (l : Link) (tag unit : Byte) (block : List Byte) (s : State) : State :=
  arrive l ⟨tag, unit, n.row.code, block⟩ s

/-- UNKNOWN_COMMAND (R5): a command frame whose code is not in the summary table. -/
def execUnknownCommand (l : Link) (tag unit code : Byte) (block : List Byte) (s : State) :
    Host.Outcome State Fault Refusal :=
  event (arrive l ⟨tag, unit, code, block⟩) s

/-- IDENTIFY (R186). -/
def execIdentify (l : Link) (tag unit : Byte) (block : List Byte) (s : State) : Host.Outcome State Fault Refusal :=
  event (commandEvent .identify l tag unit block) s

/-- CHASSIS RESET (R185). -/
def execChassisReset (l : Link) (tag unit : Byte) (block : List Byte) (s : State) : Host.Outcome State Fault Refusal :=
  event (commandEvent .chassisReset l tag unit block) s

/-- PROFILE READ (R176). -/
def execProfileRead (l : Link) (tag unit : Byte) (block : List Byte) (s : State) : Host.Outcome State Fault Refusal :=
  event (commandEvent .profileRead l tag unit block) s

/-- PROFILE WRITE (R177). -/
def execProfileWrite (l : Link) (tag unit : Byte) (block : List Byte) (s : State) : Host.Outcome State Fault Refusal :=
  event (commandEvent .profileWrite l tag unit block) s

/-- PROFILE COMMIT (R181). -/
def execProfileCommit (l : Link) (tag unit : Byte) (block : List Byte) (s : State) : Host.Outcome State Fault Refusal :=
  event (commandEvent .profileCommit l tag unit block) s

/-- PROFILE RESTORE (R183). -/
def execProfileRestore (l : Link) (tag unit : Byte) (block : List Byte) (s : State) : Host.Outcome State Fault Refusal :=
  event (commandEvent .profileRestore l tag unit block) s

/-- LINK RESET (R21). -/
def execLinkReset (l : Link) (tag unit : Byte) (block : List Byte) (s : State) : Host.Outcome State Fault Refusal :=
  event (commandEvent .linkReset l tag unit block) s

/-- RESERVE (R9). -/
def execReserve (l : Link) (tag unit : Byte) (block : List Byte) (s : State) : Host.Outcome State Fault Refusal :=
  event (commandEvent .reserve l tag unit block) s

/-- RELEASE (R11). -/
def execRelease (l : Link) (tag unit : Byte) (block : List Byte) (s : State) : Host.Outcome State Fault Refusal :=
  event (commandEvent .release l tag unit block) s

/-- REPORT SENSE (R15). -/
def execReportSense (l : Link) (tag unit : Byte) (block : List Byte) (s : State) : Host.Outcome State Fault Refusal :=
  event (commandEvent .reportSense l tag unit block) s

/-- SET NOTICES (R171). -/
def execSetNotices (l : Link) (tag unit : Byte) (block : List Byte) (s : State) : Host.Outcome State Fault Refusal :=
  event (commandEvent .setNotices l tag unit block) s

/-- DRIVE SET (R45). -/
def execDriveSet (l : Link) (tag unit : Byte) (block : List Byte) (s : State) : Host.Outcome State Fault Refusal :=
  event (commandEvent .driveSet l tag unit block) s

/-- DRIVE HOLD (R46). -/
def execDriveHold (l : Link) (tag unit : Byte) (block : List Byte) (s : State) : Host.Outcome State Fault Refusal :=
  event (commandEvent .driveHold l tag unit block) s

/-- REPORT DRIVE (R47). -/
def execReportDrive (l : Link) (tag unit : Byte) (block : List Byte) (s : State) : Host.Outcome State Fault Refusal :=
  event (commandEvent .reportDrive l tag unit block) s

/-- STEER SET (R74). -/
def execSteerSet (l : Link) (tag unit : Byte) (block : List Byte) (s : State) : Host.Outcome State Fault Refusal :=
  event (commandEvent .steerSet l tag unit block) s

/-- STEER MODE (R75). -/
def execSteerMode (l : Link) (tag unit : Byte) (block : List Byte) (s : State) : Host.Outcome State Fault Refusal :=
  event (commandEvent .steerMode l tag unit block) s

/-- STEER TRIM (R76). -/
def execSteerTrim (l : Link) (tag unit : Byte) (block : List Byte) (s : State) : Host.Outcome State Fault Refusal :=
  event (commandEvent .steerTrim l tag unit block) s

/-- REPORT STEER (R77). -/
def execReportSteer (l : Link) (tag unit : Byte) (block : List Byte) (s : State) : Host.Outcome State Fault Refusal :=
  event (commandEvent .reportSteer l tag unit block) s

/-- WINCH RUN (R87). -/
def execWinchRun (l : Link) (tag unit : Byte) (block : List Byte) (s : State) : Host.Outcome State Fault Refusal :=
  event (commandEvent .winchRun l tag unit block) s

/-- WINCH STOP (R88). -/
def execWinchStop (l : Link) (tag unit : Byte) (block : List Byte) (s : State) : Host.Outcome State Fault Refusal :=
  event (commandEvent .winchStop l tag unit block) s

/-- WINCH TO LENGTH (R89). -/
def execWinchToLength (l : Link) (tag unit : Byte) (block : List Byte) (s : State) : Host.Outcome State Fault Refusal :=
  event (commandEvent .winchToLength l tag unit block) s

/-- WINCH REFERENCE (R92). -/
def execWinchReference (l : Link) (tag unit : Byte) (block : List Byte) (s : State) : Host.Outcome State Fault Refusal :=
  event (commandEvent .winchReference l tag unit block) s

/-- WINCH FREE (R97). -/
def execWinchFree (l : Link) (tag unit : Byte) (block : List Byte) (s : State) : Host.Outcome State Fault Refusal :=
  event (commandEvent .winchFree l tag unit block) s

/-- TOW ASSIST on (R102): the block is the choice byte 1 and what follows it. -/
def execTowAssistOn (l : Link) (tag unit : Byte) (extra : List Byte) (s : State) : Host.Outcome State Fault Refusal :=
  event (commandEvent .towAssist l tag unit (1 :: extra)) s

/-- TOW ASSIST off (R103): the block is the choice byte 0 and what follows it. -/
def execTowAssistOff (l : Link) (tag unit : Byte) (extra : List Byte) (s : State) : Host.Outcome State Fault Refusal :=
  event (commandEvent .towAssist l tag unit (0 :: extra)) s

/-- REPORT WINCH (R105). -/
def execReportWinch (l : Link) (tag unit : Byte) (block : List Byte) (s : State) : Host.Outcome State Fault Refusal :=
  event (commandEvent .reportWinch l tag unit block) s

/-- LIGHT WRITE (R136). -/
def execLightWrite (l : Link) (tag unit : Byte) (block : List Byte) (s : State) : Host.Outcome State Fault Refusal :=
  event (commandEvent .lightWrite l tag unit block) s

/-- LIGHT DEFINE (R139). -/
def execLightDefine (l : Link) (tag unit : Byte) (block : List Byte) (s : State) : Host.Outcome State Fault Refusal :=
  event (commandEvent .lightDefine l tag unit block) s

/-- SHOW PATTERN (R143). -/
def execShowPattern (l : Link) (tag unit : Byte) (block : List Byte) (s : State) : Host.Outcome State Fault Refusal :=
  event (commandEvent .showPattern l tag unit block) s

/-- OVERLAY SET (R150). -/
def execOverlaySet (l : Link) (tag unit : Byte) (block : List Byte) (s : State) : Host.Outcome State Fault Refusal :=
  event (commandEvent .overlaySet l tag unit block) s

/-- LIGHT AUTO (R151). -/
def execLightAuto (l : Link) (tag unit : Byte) (block : List Byte) (s : State) : Host.Outcome State Fault Refusal :=
  event (commandEvent .lightAuto l tag unit block) s

/-- REPORT LIGHTS (R158). -/
def execReportLights (l : Link) (tag unit : Byte) (block : List Byte) (s : State) : Host.Outcome State Fault Refusal :=
  event (commandEvent .reportLights l tag unit block) s

/-- REPORT SUPPLY (R120). -/
def execReportSupply (l : Link) (tag unit : Byte) (block : List Byte) (s : State) : Host.Outcome State Fault Refusal :=
  event (commandEvent .reportSupply l tag unit block) s

/-- SUPPLY CLEAR (R115). -/
def execSupplyClear (l : Link) (tag unit : Byte) (block : List Byte) (s : State) : Host.Outcome State Fault Refusal :=
  event (commandEvent .supplyClear l tag unit block) s

/-- STOP ALL (R20). -/
def execStopAll (l : Link) (tag unit : Byte) (block : List Byte) (s : State) : Host.Outcome State Fault Refusal :=
  event (commandEvent .stopAll l tag unit block) s

end Sys2Proof.Machine
end

