-- ==== Sys2Proof/Machine/EventMeanings.lean ====
section
/-! DEFINITION. The meanings of the event rows: power, the lines, the timers, and the periods of the blocks. One definition per row. -/

namespace Sys2Proof.Machine

/-- POWER_ON (R184): application of power, or release of the reset input on a part that has power, which loses
what it was doing first (log entry 18). -/
def execPowerOn (s : State) : Host.Outcome State Fault Refusal :=
  .next (powerOn (if s.powered then losePower s else s))

/-- FRAME_RECEIVED (R163): the byte that completes a frame is taken by R161 (log entry 3). -/
def execFrameReceived (l : Link) (last : Byte) (s : State) : Host.Outcome State Fault Refusal :=
  event (receiveByte l last) s

/-- FRAME_BYTE_TIMEOUT (R161). -/
def execFrameByteTimeout (l : Link) (s : State) : Host.Outcome State Fault Refusal :=
  event (abandonFrame l) s

/-- TRANSMIT_FRAME_END (R168): the transmitter is free, and a waiting status goes before every notice. -/
def execTransmitFrameEnd (l : Link) (s : State) : Host.Outcome State Fault Refusal :=
  event (fun s => setPort l ((s.ports.get l).frameEnd.startNext s.supply.stage) s) s

/-- SILENCE_TIMEOUT (R172), when the timer is due (log entry 1). -/
def execSilenceTimeout (l : Link) (s : State) : Host.Outcome State Fault Refusal :=
  event (silenceTimeout l) s

/-- COMMIT_WRITE_COMPLETE (R182). -/
def execCommitWriteComplete (s : State) : Host.Outcome State Fault Refusal :=
  event commitComplete s

/-- SETTLING_END (R180), when 20 ms of SETTLING have passed (log entry 1). -/
def execSettlingEnd (s : State) : Host.Outcome State Fault Refusal :=
  event settlingEnd s

/-- MOTION_PERIOD (R25). -/
def execMotionPeriod (servoSense : Nat) (s : State) : Host.Outcome State Fault Refusal :=
  event (motionPeriod servoSense) s

/-- SERVO_FRAME (R71). -/
def execServoFrame (a : Axle) (s : State) : Host.Outcome State Fault Refusal :=
  event (fun s => setSteer (servoFrame s.chassis.profile a s.steer) s) s

/-- REGULATOR_PERIOD (R52). -/
def execRegulatorPeriod (w : Wheel) (count : Int) (sense : Nat) (s : State) : Host.Outcome State Fault Refusal :=
  event (fun s => (regulatorPeriod w count sense s).1) s

/-- HOLD_CREEP_EXCEEDED (R56): the regulator period that brings it about. -/
def execHoldCreepExceeded (w : Wheel) (count : Int) (sense : Nat) (s : State) : Host.Outcome State Fault Refusal :=
  event (eventWhen ChannelHappening.creepExceeded (regulatorPeriod w count sense)) s

/-- HOLD_SETTLE_END (R57): the regulator period that brings it about. -/
def execHoldSettleEnd (w : Wheel) (count : Int) (sense : Nat) (s : State) : Host.Outcome State Fault Refusal :=
  event (eventWhen ChannelHappening.settleEnded (regulatorPeriod w count sense)) s

/-- STALL_TIME_REACHED (R59): the regulator period that brings it about. -/
def execStallTimeReached (w : Wheel) (count : Int) (sense : Nat) (s : State) : Host.Outcome State Fault Refusal :=
  event (eventWhen ChannelHappening.stallReached (regulatorPeriod w count sense)) s

/-- STALL_REST_END (R60): the regulator period that brings it about. -/
def execStallRestEnd (w : Wheel) (count : Int) (sense : Nat) (s : State) : Host.Outcome State Fault Refusal :=
  event (eventWhen ChannelHappening.stallRestEnded (regulatorPeriod w count sense)) s

/-- FAULT_REST_END (R63): the regulator period that brings it about. -/
def execFaultRestEnd (w : Wheel) (count : Int) (sense : Nat) (s : State) : Host.Outcome State Fault Refusal :=
  event (eventWhen ChannelHappening.faultRestEnded (regulatorPeriod w count sense)) s

/-- FAULT_WINDOW_CLOSE (R64): the regulator period that brings it about. -/
def execFaultWindowClose (w : Wheel) (count : Int) (sense : Nat) (s : State) : Host.Outcome State Fault Refusal :=
  event (eventWhen ChannelHappening.windowClosed (regulatorPeriod w count sense)) s

/-- DRUM_COUNT (R80). -/
def execDrumCount (dir : LineDir) (s : State) : Host.Outcome State Fault Refusal :=
  event (drumCount dir) s

/-- WINCH_PERIOD (R81). -/
def execWinchPeriod (sense : Nat) (s : State) : Host.Outcome State Fault Refusal :=
  event (fun s => (winchPeriod sense s).1) s

/-- REFERENCE_DETECTED (R93): the winch period that brings it about. -/
def execReferenceDetected (sense : Nat) (s : State) : Host.Outcome State Fault Refusal :=
  event (eventWhen WinchHappening.referenceTaken (winchPeriod sense)) s

/-- REFERENCE_TIMEOUT (R94): the winch period that brings it about. -/
def execReferenceTimeout (sense : Nat) (s : State) : Host.Outcome State Fault Refusal :=
  event (eventWhen WinchHappening.referenceTimedOut (winchPeriod sense)) s

/-- LOAD_HOLD_ENTRY (R95): the winch period that brings it about. -/
def execLoadHoldEntry (sense : Nat) (s : State) : Host.Outcome State Fault Refusal :=
  event (eventWhen WinchHappening.loadHeld (winchPeriod sense)) s

/-- SUPPLY_PERIOD (R107). -/
def execSupplyPeriod (taps : Taps) (shunt : Int) (s : State) : Host.Outcome State Fault Refusal :=
  event (fun s => (supplyPeriod taps shunt s).1) s

/-- DWELL_DOWN_REACHED (R112): the supply period that brings it about. -/
def execDwellDownReached (taps : Taps) (shunt : Int) (s : State) : Host.Outcome State Fault Refusal :=
  event (eventWhen SupplyHappening.dwellDown (supplyPeriod taps shunt)) s

/-- DWELL_UP_REACHED (R113): the supply period that brings it about. -/
def execDwellUpReached (taps : Taps) (shunt : Int) (s : State) : Host.Outcome State Fault Refusal :=
  event (eventWhen SupplyHappening.dwellUp (supplyPeriod taps shunt)) s

/-- LIGHT_FRAME_BOUNDARY (R141). -/
def execLightFrameBoundary (s : State) : Host.Outcome State Fault Refusal :=
  event (fun s => (lightBoundary s).1) s

/-- PLAYBACK_COUNTDOWN (R140): the light frame boundary that brings it about. -/
def execPlaybackCountdown (s : State) : Host.Outcome State Fault Refusal :=
  event (eventWhen LightHappening.countdownReached lightBoundary) s

/-- FADE_END (R146): the light frame boundary that brings it about. -/
def execFadeEnd (s : State) : Host.Outcome State Fault Refusal :=
  event (eventWhen LightHappening.fadeEnded lightBoundary) s

/-- BYTE_RECEIVED (R161): a byte by R161, or a broken byte, which abandons the frame being received (R160). -/
def execByteReceived (l : Link) (b : Byte) (broken : Bool) (s : State) : Host.Outcome State Fault Refusal :=
  event (if broken then abandonFrame l else receiveByte l b) s

/-- POWER_LOSS (R182). -/
def execPowerLoss (s : State) : Host.Outcome State Fault Refusal :=
  .next (if s.powered then losePower s else s)

end Sys2Proof.Machine
end

