-- ==== Sys2Proof/Machine/Dispatch.lean ====
section
/-! DEFINITION. What each command and event does: one arm per row of the table, each a direct call of its meaning. -/

namespace Sys2Proof.Machine

/-- The effect of a command or event on everything but the queue. -/
def exec (i : Instr) (s : State) : Host.Outcome State Fault Refusal :=
  match i with
  | .powerOn => Sys2Proof.Machine.execPowerOn s
  | .frameReceived link last => Sys2Proof.Machine.execFrameReceived link last s
  | .frameByteTimeout link => Sys2Proof.Machine.execFrameByteTimeout link s
  | .transmitFrameEnd link => Sys2Proof.Machine.execTransmitFrameEnd link s
  | .silenceTimeout link => Sys2Proof.Machine.execSilenceTimeout link s
  | .unknownCommand link tag unit code block => Sys2Proof.Machine.execUnknownCommand link tag unit code block s
  | .identify link tag unit block => Sys2Proof.Machine.execIdentify link tag unit block s
  | .chassisReset link tag unit block => Sys2Proof.Machine.execChassisReset link tag unit block s
  | .profileRead link tag unit block => Sys2Proof.Machine.execProfileRead link tag unit block s
  | .profileWrite link tag unit block => Sys2Proof.Machine.execProfileWrite link tag unit block s
  | .profileCommit link tag unit block => Sys2Proof.Machine.execProfileCommit link tag unit block s
  | .commitWriteComplete => Sys2Proof.Machine.execCommitWriteComplete s
  | .settlingEnd => Sys2Proof.Machine.execSettlingEnd s
  | .profileRestore link tag unit block => Sys2Proof.Machine.execProfileRestore link tag unit block s
  | .linkReset link tag unit block => Sys2Proof.Machine.execLinkReset link tag unit block s
  | .reserve link tag unit block => Sys2Proof.Machine.execReserve link tag unit block s
  | .release link tag unit block => Sys2Proof.Machine.execRelease link tag unit block s
  | .reportSense link tag unit block => Sys2Proof.Machine.execReportSense link tag unit block s
  | .setNotices link tag unit block => Sys2Proof.Machine.execSetNotices link tag unit block s
  | .driveSet link tag unit block => Sys2Proof.Machine.execDriveSet link tag unit block s
  | .driveHold link tag unit block => Sys2Proof.Machine.execDriveHold link tag unit block s
  | .reportDrive link tag unit block => Sys2Proof.Machine.execReportDrive link tag unit block s
  | .steerSet link tag unit block => Sys2Proof.Machine.execSteerSet link tag unit block s
  | .steerMode link tag unit block => Sys2Proof.Machine.execSteerMode link tag unit block s
  | .steerTrim link tag unit block => Sys2Proof.Machine.execSteerTrim link tag unit block s
  | .reportSteer link tag unit block => Sys2Proof.Machine.execReportSteer link tag unit block s
  | .winchRun link tag unit block => Sys2Proof.Machine.execWinchRun link tag unit block s
  | .winchStop link tag unit block => Sys2Proof.Machine.execWinchStop link tag unit block s
  | .winchToLength link tag unit block => Sys2Proof.Machine.execWinchToLength link tag unit block s
  | .winchReference link tag unit block => Sys2Proof.Machine.execWinchReference link tag unit block s
  | .winchFree link tag unit block => Sys2Proof.Machine.execWinchFree link tag unit block s
  | .towAssistOn link tag unit extra => Sys2Proof.Machine.execTowAssistOn link tag unit extra s
  | .towAssistOff link tag unit extra => Sys2Proof.Machine.execTowAssistOff link tag unit extra s
  | .reportWinch link tag unit block => Sys2Proof.Machine.execReportWinch link tag unit block s
  | .lightWrite link tag unit block => Sys2Proof.Machine.execLightWrite link tag unit block s
  | .lightDefine link tag unit block => Sys2Proof.Machine.execLightDefine link tag unit block s
  | .showPattern link tag unit block => Sys2Proof.Machine.execShowPattern link tag unit block s
  | .overlaySet link tag unit block => Sys2Proof.Machine.execOverlaySet link tag unit block s
  | .lightAuto link tag unit block => Sys2Proof.Machine.execLightAuto link tag unit block s
  | .reportLights link tag unit block => Sys2Proof.Machine.execReportLights link tag unit block s
  | .reportSupply link tag unit block => Sys2Proof.Machine.execReportSupply link tag unit block s
  | .supplyClear link tag unit block => Sys2Proof.Machine.execSupplyClear link tag unit block s
  | .stopAll link tag unit block => Sys2Proof.Machine.execStopAll link tag unit block s
  | .motionPeriod servoSense => Sys2Proof.Machine.execMotionPeriod servoSense s
  | .servoFrame axle => Sys2Proof.Machine.execServoFrame axle s
  | .regulatorPeriod wheel count sense => Sys2Proof.Machine.execRegulatorPeriod wheel count sense s
  | .holdCreepExceeded wheel count sense => Sys2Proof.Machine.execHoldCreepExceeded wheel count sense s
  | .holdSettleEnd wheel count sense => Sys2Proof.Machine.execHoldSettleEnd wheel count sense s
  | .stallTimeReached wheel count sense => Sys2Proof.Machine.execStallTimeReached wheel count sense s
  | .stallRestEnd wheel count sense => Sys2Proof.Machine.execStallRestEnd wheel count sense s
  | .faultRestEnd wheel count sense => Sys2Proof.Machine.execFaultRestEnd wheel count sense s
  | .faultWindowClose wheel count sense => Sys2Proof.Machine.execFaultWindowClose wheel count sense s
  | .drumCount dir => Sys2Proof.Machine.execDrumCount dir s
  | .winchPeriod sense => Sys2Proof.Machine.execWinchPeriod sense s
  | .referenceDetected sense => Sys2Proof.Machine.execReferenceDetected sense s
  | .referenceTimeout sense => Sys2Proof.Machine.execReferenceTimeout sense s
  | .loadHoldEntry sense => Sys2Proof.Machine.execLoadHoldEntry sense s
  | .supplyPeriod taps shunt => Sys2Proof.Machine.execSupplyPeriod taps shunt s
  | .dwellDownReached taps shunt => Sys2Proof.Machine.execDwellDownReached taps shunt s
  | .dwellUpReached taps shunt => Sys2Proof.Machine.execDwellUpReached taps shunt s
  | .lightFrameBoundary => Sys2Proof.Machine.execLightFrameBoundary s
  | .playbackCountdown => Sys2Proof.Machine.execPlaybackCountdown s
  | .fadeEnd => Sys2Proof.Machine.execFadeEnd s
  | .byteReceived link byte broken => Sys2Proof.Machine.execByteReceived link byte broken s
  | .powerLoss => Sys2Proof.Machine.execPowerLoss s

end Sys2Proof.Machine
end

