-- ==== Sys2Proof/WellFormed.lean ====
section
/-! DEFINITION. Which commands and events the part can meet: the length of a parameter block (R164), the codes an unknown command may carry (R5), and the range of a tap reading (R108). -/

namespace Sys2Proof

/-- The most bytes a parameter block can have (R164). -/
def maxBlock : Nat := 48

/-- Whether a block fits a command frame (R164). -/
def blockFitsFrame (block : List Byte) : Bool := decide (block.length ≤ maxBlock)

/-- Whether what follows the choice byte of TOW ASSIST fits a command frame (R164). -/
def extraFitsFrame (extra : List Byte) : Bool := decide (extra.length + 1 ≤ maxBlock)

/-- Whether every tap reading lies within 0..20000 mV (R108). -/
def tapsFit (t : Taps) : Bool :=
  decide (t.tap1 ≤ 20000) && decide (t.tap2 ≤ 20000) && decide (t.tap3 ≤ 20000) && decide (t.tap4 ≤ 20000)

/-- Whether a code is outside the command code summary table (R5, R165). -/
def codeUnknown (code : Byte) : Bool := (Machine.CmdName.ofCode code).isNone

/-- Whether a command or event is one the part can meet. -/
def Instr.wf (i : Instr) : Bool :=
  match i with
  | .unknownCommand _ _ _ code block => codeUnknown code && blockFitsFrame block
  | .identify _ _ _ block | .chassisReset _ _ _ block | .profileRead _ _ _ block | .profileWrite _ _ _ block
  | .profileCommit _ _ _ block | .profileRestore _ _ _ block | .linkReset _ _ _ block | .reserve _ _ _ block
  | .release _ _ _ block | .reportSense _ _ _ block | .setNotices _ _ _ block | .driveSet _ _ _ block
  | .driveHold _ _ _ block | .reportDrive _ _ _ block | .steerSet _ _ _ block | .steerMode _ _ _ block
  | .steerTrim _ _ _ block | .reportSteer _ _ _ block | .winchRun _ _ _ block | .winchStop _ _ _ block
  | .winchToLength _ _ _ block | .winchReference _ _ _ block | .winchFree _ _ _ block | .reportWinch _ _ _ block
  | .lightWrite _ _ _ block | .lightDefine _ _ _ block | .showPattern _ _ _ block | .overlaySet _ _ _ block
  | .lightAuto _ _ _ block | .reportLights _ _ _ block | .reportSupply _ _ _ block | .supplyClear _ _ _ block
  | .stopAll _ _ _ block => blockFitsFrame block
  | .towAssistOn _ _ _ extra | .towAssistOff _ _ _ extra => extraFitsFrame extra
  | .supplyPeriod taps _ | .dwellDownReached taps _ | .dwellUpReached taps _ => tapsFit taps
  | .powerOn | .frameReceived _ _ | .frameByteTimeout _ | .transmitFrameEnd _ | .silenceTimeout _
  | .commitWriteComplete | .settlingEnd | .motionPeriod _ | .servoFrame _ | .regulatorPeriod _ _ _
  | .holdCreepExceeded _ _ _ | .holdSettleEnd _ _ _ | .stallTimeReached _ _ _ | .stallRestEnd _ _ _
  | .faultRestEnd _ _ _ | .faultWindowClose _ _ _ | .drumCount _ | .winchPeriod _ | .referenceDetected _
  | .referenceTimeout _ | .loadHoldEntry _ | .lightFrameBoundary | .playbackCountdown | .fadeEnd
  | .byteReceived _ _ _ | .powerLoss => true

end Sys2Proof
end

