-- ==== Sys2Proof/Safety.lean ====
section
/-! DEFINITION. The terms in which claims about the part are stated: the command frame a row carries, when a command is admitted to execution, the state an answered command leaves, and the conditions that every step keeps. -/

namespace Sys2Proof.Machine

/-! ## Commands and their answers -/

/-- The link and the command frame that a command row carries; none for an event row. -/
def instrFrame (i : Instr) : Option (Link × Command) :=
  match i with
  | .unknownCommand l t u code b => some (l, ⟨t, u, code, b⟩)
  | .identify l t u b => some (l, ⟨t, u, CmdName.identify.row.code, b⟩)
  | .chassisReset l t u b => some (l, ⟨t, u, CmdName.chassisReset.row.code, b⟩)
  | .profileRead l t u b => some (l, ⟨t, u, CmdName.profileRead.row.code, b⟩)
  | .profileWrite l t u b => some (l, ⟨t, u, CmdName.profileWrite.row.code, b⟩)
  | .profileCommit l t u b => some (l, ⟨t, u, CmdName.profileCommit.row.code, b⟩)
  | .profileRestore l t u b => some (l, ⟨t, u, CmdName.profileRestore.row.code, b⟩)
  | .linkReset l t u b => some (l, ⟨t, u, CmdName.linkReset.row.code, b⟩)
  | .reserve l t u b => some (l, ⟨t, u, CmdName.reserve.row.code, b⟩)
  | .release l t u b => some (l, ⟨t, u, CmdName.release.row.code, b⟩)
  | .reportSense l t u b => some (l, ⟨t, u, CmdName.reportSense.row.code, b⟩)
  | .setNotices l t u b => some (l, ⟨t, u, CmdName.setNotices.row.code, b⟩)
  | .driveSet l t u b => some (l, ⟨t, u, CmdName.driveSet.row.code, b⟩)
  | .driveHold l t u b => some (l, ⟨t, u, CmdName.driveHold.row.code, b⟩)
  | .reportDrive l t u b => some (l, ⟨t, u, CmdName.reportDrive.row.code, b⟩)
  | .steerSet l t u b => some (l, ⟨t, u, CmdName.steerSet.row.code, b⟩)
  | .steerMode l t u b => some (l, ⟨t, u, CmdName.steerMode.row.code, b⟩)
  | .steerTrim l t u b => some (l, ⟨t, u, CmdName.steerTrim.row.code, b⟩)
  | .reportSteer l t u b => some (l, ⟨t, u, CmdName.reportSteer.row.code, b⟩)
  | .winchRun l t u b => some (l, ⟨t, u, CmdName.winchRun.row.code, b⟩)
  | .winchStop l t u b => some (l, ⟨t, u, CmdName.winchStop.row.code, b⟩)
  | .winchToLength l t u b => some (l, ⟨t, u, CmdName.winchToLength.row.code, b⟩)
  | .winchReference l t u b => some (l, ⟨t, u, CmdName.winchReference.row.code, b⟩)
  | .winchFree l t u b => some (l, ⟨t, u, CmdName.winchFree.row.code, b⟩)
  | .reportWinch l t u b => some (l, ⟨t, u, CmdName.reportWinch.row.code, b⟩)
  | .lightWrite l t u b => some (l, ⟨t, u, CmdName.lightWrite.row.code, b⟩)
  | .lightDefine l t u b => some (l, ⟨t, u, CmdName.lightDefine.row.code, b⟩)
  | .showPattern l t u b => some (l, ⟨t, u, CmdName.showPattern.row.code, b⟩)
  | .overlaySet l t u b => some (l, ⟨t, u, CmdName.overlaySet.row.code, b⟩)
  | .lightAuto l t u b => some (l, ⟨t, u, CmdName.lightAuto.row.code, b⟩)
  | .reportLights l t u b => some (l, ⟨t, u, CmdName.reportLights.row.code, b⟩)
  | .reportSupply l t u b => some (l, ⟨t, u, CmdName.reportSupply.row.code, b⟩)
  | .supplyClear l t u b => some (l, ⟨t, u, CmdName.supplyClear.row.code, b⟩)
  | .stopAll l t u b => some (l, ⟨t, u, CmdName.stopAll.row.code, b⟩)
  | .towAssistOn l t u extra => some (l, ⟨t, u, CmdName.towAssist.row.code, 1 :: extra⟩)
  | .towAssistOff l t u extra => some (l, ⟨t, u, CmdName.towAssist.row.code, 0 :: extra⟩)
  | .powerOn | .frameReceived _ _ | .frameByteTimeout _ | .transmitFrameEnd _ | .silenceTimeout _
  | .commitWriteComplete | .settlingEnd | .motionPeriod _ | .servoFrame _ | .regulatorPeriod _ _ _
  | .holdCreepExceeded _ _ _ | .holdSettleEnd _ _ _ | .stallTimeReached _ _ _ | .stallRestEnd _ _ _
  | .faultRestEnd _ _ _ | .faultWindowClose _ _ _ | .drumCount _ | .winchPeriod _ | .referenceDetected _
  | .referenceTimeout _ | .loadHoldEntry _ | .supplyPeriod _ _ | .dwellDownReached _ _ | .dwellUpReached _ _
  | .lightFrameBoundary | .playbackCountdown | .fadeEnd | .byteReceived _ _ _ | .powerLoss => none

/-- The state in which a command is taken: its link's timer reloaded and the link ACTIVE with its flag clear, and
the command in the slot (R163, R164). -/
def taken (l : Link) (c : Command) (s : State) : State :=
  setPort l { s.ports.get l with
    silence := freshTimer (timeoutOf s.chassis.profile l)
    link := .active
    failsafeFlag := false
    slot := some c } s

/-- The state after a taken command is answered: the status in the sender's status position, and then started if the
transmitter is free (R167, R168). -/
def answered (l : Link) (tag : Byte) (code : StatusCode) (reply : List Byte) (s : State) : State :=
  arbitrate (placeStatus l tag ⟨code, reply, s⟩)

/-- Whether a command is taken at all: the part runs and the sender's slot is empty (R164). -/
def slotFree (l : Link) (s : State) : Bool := s.powered && (s.ports.get l).slot.isNone

/-- Whether no kind stands in the way of a command of a name: none waits, or the command is REPORT SENSE or STOP ALL
(R4). -/
def attentionClear (n : CmdName) (l : Link) (s : State) : Bool :=
  (s.disp.attention.get l).isEmpty || decide (n = .reportSense) || decide (n = .stopAll)

/-- Whether a command reaches its unit's execution: it is taken, no kind waits, its unit field and its block are well
formed, no other master holds its unit, its unit is not busy, and its tag is free (R3 to R8). -/
def admitted (n : CmdName) (l : Link) (tag unit : Byte) (block : List Byte) (s : State) : Bool :=
  let c : Command := ⟨tag, unit, n.row.code, block⟩
  slotFree l s && attentionClear n l s && unitFits n unit && blockFits n block
    && !heldByAnother l n s && !busy n c s && !tagClash l n c s

/-- The state after a unit mutating command of a unit is executed: its sender is the unit's last commander (R12). -/
def commanded (u : UnitId) (l : Link) (s : State) : State :=
  { s with disp := { s.disp with last := s.disp.last.set u l } }

/-- The state after an acceptance: the unit's slot filled (R17). -/
def slotFilled (u : UnitId) (kind : LongKind) (l : Link) (tag : Byte) (s : State) : State :=
  { s with disp := s.disp.setOp u (some ⟨kind, some l, tag, s.now⟩) }

/-- The state in which a CHECK has been decided: the sender's sense record overwritten in full (R14). -/
def senseWritten (l : Link) (r : Reason) (unit tag : Byte) (value : Option Int) (s : State) : State :=
  { s with disp := { s.disp with sense := s.disp.sense.set l ⟨r, unit, tag, value⟩ } }

/-- Whether a unit is affected by a link's silence: the link holds it, or the unit is unreserved and the link commanded
it last (R22). -/
def affectedBy (l : Link) (u : UnitId) (s : State) : Prop :=
  s.disp.holders.get u = some l ∨ s.disp.holders.get u = none ∧ s.disp.last.get u = some l

/-- What an offered notice, a placed status and the transmit arbiter leave alone of a port. -/
def portKept (q r : Port) : Prop :=
  r.assembly = q.assembly ∧ r.buffer = q.buffer ∧ r.slot = q.slot ∧ r.mask = q.mask ∧ r.silence = q.silence ∧
    r.link = q.link ∧ r.failsafeFlag = q.failsafeFlag

/-- Every port is left so. -/
def portsKept (s t : State) : Prop := ∀ m, portKept (s.ports.get m) (t.ports.get m)

/-- The queue, the power and the clock are left alone. -/
def clockKept (s t : State) : Prop :=
  t.pending = s.pending ∧ t.powered = s.powered ∧ t.now = s.now

/-- The bytes received one after the other on a link. -/
def receiveAll (l : Link) (bytes : List Byte) (s : State) : Host.Outcome State Fault Refusal :=
  match bytes with
  | [] => .next s
  | b :: rest =>
    match exec (.byteReceived l b false) s with
    | .next t => receiveAll l rest t
    | .fault r => .fault r
    | .refused r => .refused r

/-- Whether two states agree on every unit: motion computer, wheel channels, steering, winch, supply, allocator,
light engine and profile store. -/
def sameUnits (s t : State) : Prop :=
  t.drive = s.drive ∧ t.wheels = s.wheels ∧ t.steer = s.steer ∧ t.winch = s.winch ∧ t.supply = s.supply ∧
    t.alloc = s.alloc ∧ t.lights = s.lights ∧ t.chassis = s.chassis

/-! ## Conditions on the ports -/

/-- Whether a frame on the line is a status frame. -/
def sendingStatus (q : Port) : Bool :=
  match q.tx with
  | some f => f.isStatus
  | none => false

/-- The slot is occupied exactly while its status waits or is on the line, and the two are never at once
(R164, R167). -/
def slotAccounted (q : Port) : Bool :=
  (q.slot.isSome == (q.status.isSome || sendingStatus q)) && !(q.status.isSome && sendingStatus q)

/-- The notice queue holds at most 8 notices, and between events no notice waits to join it (R169). -/
def noticesBounded (q : Port) : Bool := decide (q.notices.length ≤ 8) && q.offered.isEmpty

/-- The assembly buffer holds what its state says: nothing in HUNT and LENGTH, a length byte of 4..52 and part of
the body in BODY, the whole body and at most one check byte in CHECK (R161). -/
def assemblyFits (q : Port) : Bool :=
  let n := announced q.buffer
  match q.assembly with
  | .hunt | .length => q.buffer.isEmpty
  | .body => decide (4 ≤ n) && decide (n ≤ 52) && decide (1 ≤ q.buffer.length) && decide (q.buffer.length ≤ n)
  | .check => decide (4 ≤ n) && decide (n ≤ 52) && decide (n + 1 ≤ q.buffer.length)
      && decide (q.buffer.length ≤ n + 2)

/-- A port keeps its conditions. -/
def portFits (q : Port) : Bool := slotAccounted q && noticesBounded q && assemblyFits q

/-- Every port keeps its conditions, and every attention queue holds each kind at most once (R16). -/
def linksFit (s : State) : Prop :=
  (∀ l, portFits (s.ports.get l) = true) ∧ ∀ l, (s.disp.attention.get l).Nodup

/-! ## The tow link -/

/-- What holds while a tow link exists: the drive is in TOWING, its owner holds WINCH and has an ACTIVE link, no other
master holds DRIVE, and the stage is not CUTOFF. Without a tow link the drive is not in TOWING (section 5.11, R38, R40,
R104). -/
def towFits (s : State) : Prop :=
  match s.winch.tow with
  | some t =>
    s.drive.state = .towing ∧ s.disp.holders.winch = some t.owner ∧ (s.ports.get t.owner).link = .active ∧
      (s.disp.holders.drive = none ∨ s.disp.holders.drive = some t.owner) ∧ s.supply.stage ≠ .cutoff
  | none => s.drive.state ≠ .towing

/-! ## The governor factors -/

/-- The factors lie in 0..1024, and those of the drive and the winch are 0 in CUTOFF (R129). -/
def factorsFit (s : State) : Prop :=
  s.alloc.gD ≤ 1024 ∧ s.alloc.gW ≤ 1024 ∧ s.alloc.gL ≤ 1024 ∧
    (s.supply.stage = .cutoff → s.alloc.gD = 0 ∧ s.alloc.gW = 0)

/-! ## The profile -/

/-- A value lies in its field's range; a silence timeout is 0 or at least 50 (R172, R175). -/
def fieldFits (f : Field) (v : Int) : Bool :=
  match f with
  | .silenceTimeout _ => decide (v = 0) || (decide (50 ≤ v) && decide (v ≤ 2000))
  | _ => decide (f.row.low ≤ v) && decide (v ≤ f.row.high)

/-- Every field lies in its range and the four order rules hold (R175, R178). -/
def profileFits (p : Profile) : Bool :=
  (allFields.all fun f => fieldFits f (p.get f))
    && thresholdsOrdered p && lightsOrdered p && currentsOrdered p && frontOrdered p && rearOrdered p

/-- The working profile, the snapshot of a commit in flight, and an image that passes its check all keep the ranges and
the order rules (R178). -/
def storeFits (s : State) : Prop :=
  profileFits s.chassis.profile = true ∧
    (∀ c, s.chassis.snapshot = some c → profileFits c.profile = true) ∧
    (s.chassis.image.good = true → profileFits s.chassis.image.contents.profile = true)

/-! ## The long-operation slots -/

/-- The CHASSIS slot holds COMMIT exactly while the image is being written, and a snapshot is present exactly then
(R17, R180, R181, R182). -/
def commitFits (s : State) : Prop :=
  s.disp.chassisOp.map LongOp.kind = (if s.chassis.imageState = .writing then some .commit else none) ∧
    s.chassis.snapshot.isSome = decide (s.chassis.imageState = .writing)

/-- The kind of operation a winch state runs (R83). -/
def winchKind (w : WinchState) : Option LongKind :=
  match w with
  | .move => some .move
  | .reference => some .reference
  | .idle | .runIn | .runOut | .loadHold | .free => none

/-- The WINCH slot holds the operation of the winch's state; a move target and direction are present exactly in MOVE, an
outward target does not exceed L_max, and in REFERENCE the load timer never leads the reference timer, which is below
its 50 ms (R83, R89 to R93). -/
def winchFits (s : State) : Prop :=
  s.disp.winchOp.map LongOp.kind = winchKind s.winch.state ∧
    s.winch.moveTarget.isSome = decide (s.winch.state = .move) ∧
    s.winch.moveDir.isSome = decide (s.winch.state = .move) ∧
    (s.winch.moveDir = some .outward → ∀ t, s.winch.moveTarget = some t →
      t ≤ s.chassis.profile.nat .payoutLimit) ∧
    (s.winch.state = .reference → s.winch.loadTimer ≤ s.winch.refTimer ∧ s.winch.refTimer < 50)

/-- The kind of operation a transition is (R17). -/
def transitionKind (t : Transition) : Option LongKind :=
  match t with
  | .cut => none
  | .fade _ => some .fade
  | .fill _ _ => some .fill

/-- The kind of operation a fade is. -/
def fadeOpKind (k : FadeKind) : LongKind :=
  match k with
  | .fade => .fade
  | .fill => .fill

/-- The operation the BASE record is about: a staged FADE or FILL, else a fade that is not marked ended. -/
def baseKind (b : Base) : Option LongKind :=
  match b.staged.bind fun g => transitionKind g.transition with
  | some k => some k
  | none => (b.fade.filter fun f => !f.ended).map fun f => fadeOpKind f.kind

/-- The LIGHTS slot holds the BASE record's transition, staged or in flight; beside a staged source there is no fade but
one marked ended (R17, R143, R144). -/
def lightsFit (s : State) : Prop :=
  s.disp.lightsOp.map LongOp.kind = baseKind s.lights.base ∧
    (s.lights.base.staged.isSome = true → ∀ f, s.lights.base.fade = some f → f.ended = true)

/-! ## The lights -/

/-- A source's level is an intensity (R142). -/
def sourceFits (x : Source) : Bool :=
  match x with
  | .pattern _ => true
  | .level v => decide (v ≤ 254)

/-- A transition's fill level is an intensity (R142). -/
def transitionFits (t : Transition) : Bool :=
  match t with
  | .cut | .fade _ => true
  | .fill _ v => decide (v ≤ 254)

/-- The levels of the BASE record are intensities (R142). -/
def baseFits (b : Base) : Prop :=
  sourceFits b.live.source = true ∧
    (∀ g, b.staged = some g → sourceFits g.source = true ∧ transitionFits g.transition = true) ∧
    ∀ f, b.fade = some f → sourceFits f.outgoing.source = true ∧ sourceFits f.incoming.source = true ∧
      f.fillLevel ≤ 254

/-- Every composed value is an intensity and no output exceeds its composed value (R142, R153, R155). -/
def outputsFit (s : State) : Prop :=
  baseFits s.lights.base ∧ s.alloc.gL ≤ 1024 ∧
    ∀ c : Fin 24, s.lights.composed[c] ≤ 254 ∧ s.lights.outputs[c] ≤ s.lights.composed[c]

/-! ## The drive -/

/-- Every target lies in -4000..4000, and the two wheels of a side have the same one (R36). -/
def targetsFit (s : State) : Prop :=
  let t := s.drive.targets
  t.fl = t.rl ∧ t.fr = t.rr ∧ (-4000 ≤ t.fl ∧ t.fl ≤ 4000) ∧ (-4000 ≤ t.fr ∧ t.fr ≤ 4000)

end Sys2Proof.Machine
end

