-- ==== Sys2Proof/Certificates/Slice0/Obligations.lean ====
section
/-! DEFINITION. The statements about the part that are put to the provers. Each formalises rules of the manual; the docstring names them, and the log entry where a clause is the model's own. -/

open Sys2Proof Sys2Proof.Machine

/-! ## The step, the queue and the power -/

/-- A step takes the command at the front of the queue and answers what `exec` answers on the state with the queue's
rest. -/
def Obligations.StepRunsTheFrontCommand : Prop :=
  ∀ (i : Instr) (rest : List Instr) (s : State), s.pending = i :: rest → step s = exec i { s with pending := rest }

/-- On an empty queue a powered part lets one ms pass and does nothing else, and a part without power does nothing: the
model's choice (log entries 1 and 2). -/
def Obligations.IdleStepPassesOneMillisecond : Prop :=
  ∀ s : State, s.pending = [] →
    (s.powered = false → step s = .next s) ∧
    (s.powered = true → step s = .next { s with
      now := s.now + 1
      ports := s.ports.map fun _ q => { q with silence := q.silence.map (· + 1) }
      drive := { s.drive with brakeTimer := s.drive.brakeTimer.map (· + 1) }
      chassis := { s.chassis with
        settleElapsed :=
          if s.chassis.imageState = .settling then s.chassis.settleElapsed + 1 else s.chassis.settleElapsed } })

/-- Every command and event completes: none faults and none is refused, and none touches the queue.

A part without power takes no event but power-on: the model's choice (log entry 2).

A row that names an outcome of a period does what that period does, or nothing but the start of a waiting
frame where the outcome does not come about: the model's choice (log entries 3 and 4). -/
def Obligations.EveryCommandCompletesAndKeepsTheQueue : Prop :=
  (∀ (i : Instr) (s : State), ∃ t, exec i s = .next t ∧ t.pending = s.pending) ∧
  (∀ (i : Instr) (s : State), s.powered = false → i ≠ .powerOn → exec i s = .next s) ∧
  (∀ s : State,
     (∀ (w : Wheel) (count : Int) (sense : Nat) (i : Instr),
       i = .holdCreepExceeded w count sense ∨ i = .holdSettleEnd w count sense ∨ i = .stallTimeReached w count sense ∨
         i = .stallRestEnd w count sense ∨ i = .faultRestEnd w count sense ∨ i = .faultWindowClose w count sense →
       exec i s = exec (.regulatorPeriod w count sense) s ∨ exec i s = .next (arbitrate s)) ∧
     (∀ (sense : Nat) (i : Instr),
       i = .referenceDetected sense ∨ i = .referenceTimeout sense ∨ i = .loadHoldEntry sense →
       exec i s = exec (.winchPeriod sense) s ∨ exec i s = .next (arbitrate s)) ∧
     (∀ (x : Taps) (shunt : Int) (i : Instr), i = .dwellDownReached x shunt ∨ i = .dwellUpReached x shunt →
       exec i s = exec (.supplyPeriod x shunt) s ∨ exec i s = .next (arbitrate s)) ∧
     ∀ i : Instr, i = .playbackCountdown ∨ i = .fadeEnd →
       exec i s = exec .lightFrameBoundary s ∨ exec i s = .next (arbitrate s))

/-- Power-on (R184): the image is read and checked, and the profile, the store and the table are its own or the defaults;
every block takes its power-on values (R24, R48, R68, R79, R106, R121, R134, R159, R174). What no rule names is not stated:
the stall signs, the bridges, the count the drum speed is measured from, the wheel states and factors in reports, the
playbacks (log entry 9). That the factors start from 1024, and not from the 0 of R129, is the model's choice (log
entry 41).

Power-on of a part that has power is the loss of that power and then the power-on: the model's choice
(log entry 18). -/
def Obligations.PowerOnLoadsTheImage : Prop :=
  (∀ s : State, s.powered = false → ∃ t, exec .powerOn s = .next t ∧
     t.powered = true ∧ t.now = 0 ∧ t.pending = s.pending ∧ t.chassis.image = s.chassis.image ∧
     (s.chassis.image.good = true →
       t.chassis.profile = s.chassis.image.contents.profile ∧ t.lights.store = s.chassis.image.contents.store ∧
         defsOf t.lights.table = s.chassis.image.contents.table ∧ t.chassis.status = .loaded) ∧
     (s.chassis.image.good = false →
       t.chassis.profile = .defaults ∧ t.lights.store = Vector.replicate 64 (Vector.replicate 24 0) ∧
         defsOf t.lights.table = Vector.replicate 16 .undefined ∧ t.chassis.status = .defaults) ∧
     (∀ n : Fin 16, t.lights.table[n].openBy = none) ∧
     t.chassis.imageState = .ready ∧ t.chassis.unsaved = false ∧ t.chassis.snapshot = none ∧
     t.disp = ⟨⟨none, none, none, none, none⟩, ⟨none, none, none, none⟩,
       ⟨[.restarted], [.restarted], [.restarted]⟩, ⟨⟨.none, 0, 0, none⟩, ⟨.none, 0, 0, none⟩, ⟨.none, 0, 0, none⟩⟩,
       none, none, none⟩ ∧
     (∀ l, t.ports.get l = { assembly := .hunt, buffer := [], slot := none, status := none, notices := [], offered := [],
                             mask := 0,
                             framesLost := false, noticesLost := false, tx := none,
                             silence := if t.chassis.profile.nat (.silenceTimeout l) = 0 then none else some 0,
                             link := .active, failsafeFlag := false }) ∧
     (t.drive.state = .holding ∧ t.drive.t = 0 ∧ t.drive.b = 0 ∧ t.drive.bCmd = 0 ∧ t.drive.bLast = 0 ∧
       t.drive.kappa = 0 ∧ t.drive.fLeft = 16384 ∧ t.drive.fRight = 16384 ∧ t.drive.targets = ⟨0, 0, 0, 0⟩ ∧
       t.drive.brakeTimer = none ∧ t.drive.braking = false ∧ t.drive.reverse = false) ∧
     (∀ w, (t.wheels.get w).state = .hold ∧ (t.wheels.get w).target = 0 ∧
       (t.wheels.get w).window = List.replicate 20 0 ∧ (t.wheels.get w).m = 0 ∧ (t.wheels.get w).current = 0 ∧
       (t.wheels.get w).d = 0 ∧ (t.wheels.get w).ePrev = 0 ∧ (t.wheels.get w).creep = 0 ∧
       (t.wheels.get w).settle = 0 ∧ (t.wheels.get w).stallTimer = 0 ∧ (t.wheels.get w).rest = 0 ∧
       (t.wheels.get w).history = .none) ∧
     (let p := t.chassis.profile;
       t.steer = ⟨0, .front, 1000, ⟨0, 0⟩, ⟨0, 0⟩,
       ⟨clampInt (p.get .frontMin) (p.get .frontMax) (1500 + p.get .frontTrim),
        clampInt (p.get .rearMin) (p.get .rearMax) (1500 + p.get .rearTrim)⟩, ⟨.none, .none⟩, 0, 0⟩) ∧
     (t.winch.state = .idle ∧ t.winch.referenced = false ∧ t.winch.count = 0 ∧ t.winch.speed = 0 ∧
       t.winch.current = 0 ∧ t.winch.runSpeed = 0 ∧ t.winch.duty = 0 ∧ t.winch.moveTarget = none ∧
       t.winch.moveDir = none ∧ t.winch.refTimer = 0 ∧ t.winch.loadTimer = 0 ∧ t.winch.note = .none ∧
       t.winch.tow = none) ∧
     (t.supply.cells = ⟨0, 0, 0, 0⟩ ∧ t.supply.iPack = 0 ∧ t.supply.vMin = 0 ∧ t.supply.vComp = 0 ∧
       t.supply.x = .normal ∧ t.supply.stage = .normal ∧ t.supply.down = 0 ∧ t.supply.up = 0 ∧
       t.supply.candidate = none ∧ t.supply.initialPending = true) ∧
     t.alloc = ⟨0, 0, 0, 0, 0, 0, .driveFirst, 0, 0, 0, 0, 0, 1024, 1024, 1024⟩ ∧
     (let k := t.chassis.profile.nat .startPattern;
       t.lights.base.live.source = (if (t.lights.defn k).defined then .pattern k else .level 0) ∧
         t.lights.base.live.play.step = 0) ∧
     (t.lights.base.staged = none ∧ t.lights.base.fade = none ∧ t.lights.mode = .auto ∧
       t.lights.indicator.active = false ∧ t.lights.brake.active = false ∧ t.lights.reverse.active = false ∧
       t.lights.mirrored = false ∧ t.lights.overlay.pattern = none ∧ t.lights.overlay.mirrored = false ∧
       t.lights.alert.selected = none ∧ t.lights.composed = Vector.replicate 24 0 ∧
       t.lights.outputs = Vector.replicate 24 0 ∧ t.lights.iLest = 0 ∧ t.lights.gUsed = 1024)) ∧
  (∀ s t : State, s.powered = true → exec .powerLoss s = .next t → exec .powerOn s = exec .powerOn t)

/-- Power loss (R182): outside WRITING the image stands; during WRITING it is left with some new and some old contents
and a check word that does not match them, whatever the free values of log entry 6 are. Nothing else changes but the
power and the count of free values. That each value, frame and record is wholly new or wholly old is the model's choice
(log entry 6). -/
def Obligations.PowerLossBreaksAnImageBeingWritten : Prop :=
  ∀ s : State, s.powered = true →
    (s.chassis.imageState ≠ .writing → exec .powerLoss s = .next { s with powered := false }) ∧
    ∀ c, s.chassis.imageState = .writing → s.chassis.snapshot = some c →
      ∃ img n, exec .powerLoss s =
          .next { s with powered := false, draws := n, chassis := { s.chassis with image := img } } ∧
        img.good = false ∧
        (∀ f, img.contents.profile.get f = c.profile.get f ∨
          img.contents.profile.get f = s.chassis.image.contents.profile.get f) ∧
        (∀ i : Fin 64, img.contents.store[i] = c.store[i] ∨
          img.contents.store[i] = s.chassis.image.contents.store[i]) ∧
        ∀ i : Fin 16, img.contents.table[i] = c.table[i] ∨
          img.contents.table[i] = s.chassis.image.contents.table[i]

/-! ## Screening -/

/-- The attention step (R4): a waiting kind answers any command but REPORT SENSE and STOP ALL with ATTEND; the oldest
kind leaves the queue and becomes the sense record. -/
def Obligations.AttentionDeliversTheOldestKind : Prop :=
  ∀ (i : Instr) (l : Link) (c : Command) (k : Attention) (q : List Attention) (s : State),
    instrFrame i = some (l, c) → slotFree l s = true → s.disp.attention.get l = k :: q →
    c.code ≠ 0x12 → c.code ≠ 0x70 →
    exec i s = .next (answered l c.tag .attend [] { taken l c s with
      disp := { s.disp with
        attention := s.disp.attention.set l q
        sense := s.disp.sense.set l ⟨.attention k, c.unit, c.tag, none⟩ } })

/-- The validity step (R5), which is all that UNKNOWN_COMMAND does: an unknown code, a unit field that does not fit and a
malformed block are refused in this order, with the sense record written and no other effect.

The command code summary table (R1, R2, R165): each command's code, the unit fields it fits, its class, the length of its
block, and the greatest value of each enumerated parameter (R5), by its place in the block; and the units that a RESERVE or
RELEASE can name. -/
def Obligations.ValidityRefusesInOrder : Prop :=
  (∀ n : CmdName,
    let row : Nat × List Nat × CmdClass × Nat × List (Nat × Nat) := match n with
      | .identify => (0x01, [5], .read, 0, [])
      | .chassisReset => (0x02, [5], .mutating, 0, [])
      | .profileRead => (0x03, [5], .read, 1, [])
      | .profileWrite => (0x04, [5], .mutating, 5, [])
      | .profileCommit => (0x05, [5], .mutating, 0, [])
      | .profileRestore => (0x06, [5], .mutating, 0, [])
      | .linkReset => (0x07, [5], .dispatcher, 0, [])
      | .reserve => (0x10, [0, 1, 2, 3, 5], .dispatcher, 1, [(0, 1)])
      | .release => (0x11, [0, 1, 2, 3, 5], .dispatcher, 0, [])
      | .reportSense => (0x12, [5], .dispatcher, 0, [])
      | .setNotices => (0x13, [5], .dispatcher, 1, [(0, 31)])
      | .driveSet => (0x20, [0], .mutating, 2, [])
      | .driveHold => (0x21, [0], .mutating, 0, [])
      | .reportDrive => (0x22, [0], .read, 0, [])
      | .steerSet => (0x30, [1], .mutating, 2, [])
      | .steerMode => (0x31, [1], .mutating, 3, [(0, 3)])
      | .steerTrim => (0x32, [1], .mutating, 3, [(0, 1)])
      | .reportSteer => (0x33, [1], .read, 0, [])
      | .winchRun => (0x40, [2], .mutating, 3, [(0, 1)])
      | .winchStop => (0x41, [2], .mutating, 0, [])
      | .winchToLength => (0x42, [2], .mutating, 4, [])
      | .winchReference => (0x43, [2], .mutating, 0, [])
      | .winchFree => (0x44, [2], .mutating, 1, [(0, 1)])
      | .towAssist => (0x45, [2], .mutating, 1, [(0, 1)])
      | .reportWinch => (0x46, [2], .read, 0, [])
      | .lightWrite => (0x50, [3], .mutating, 26, [(1, 1)])
      | .lightDefine => (0x51, [3], .mutating, 6, [(1, 1), (5, 1)])
      | .showPattern => (0x52, [3], .mutating, 7, [(0, 1), (2, 2)])
      | .overlaySet => (0x53, [3], .mutating, 2, [(1, 1)])
      | .lightAuto => (0x54, [3], .mutating, 1, [(0, 1)])
      | .reportLights => (0x55, [3], .read, 2, [(0, 4)])
      | .reportSupply => (0x60, [4], .read, 0, [])
      | .supplyClear => (0x61, [4], .mutating, 0, [])
      | .stopAll => (0x70, [15], .stop, 0, [])
    (∀ code : Byte, CmdName.ofCode code = some n ↔ code.toNat = row.1) ∧
    (∀ field : Byte, unitFits n field = true ↔ field.toNat ∈ row.2.1) ∧
    n.row.cls = row.2.2.1 ∧
    ∀ b : List Byte, blockFits n b = true ↔
      b.length = row.2.2.2.1 ∧ ∀ e ∈ row.2.2.2.2, (byteAt b e.1).toNat ≤ e.2) ∧
  (∀ field : Byte, reservableUnit field = match field.toNat with
    | 0 => some .drive
    | 1 => some .steer
    | 2 => some .winch
    | 3 => some .lights
    | 5 => some .chassis
    | _ => none) ∧
  ∀ (i : Instr) (l : Link) (c : Command) (s : State),
    instrFrame i = some (l, c) → slotFree l s = true →
    (s.disp.attention.get l = [] ∨ c.code = 0x12 ∨ c.code = 0x70) →
    (CmdName.ofCode c.code = none →
      exec i s = .next (answered l c.tag .check []
        (senseWritten l (.illegal .unknownCommand) c.unit c.tag none (taken l c s)))) ∧
    ∀ n, CmdName.ofCode c.code = some n →
      (unitFits n c.unit = false →
        exec i s = .next (answered l c.tag .check []
          (senseWritten l (.illegal .wrongUnit) c.unit c.tag none (taken l c s)))) ∧
      (unitFits n c.unit = true → blockFits n c.params = false →
        exec i s = .next (answered l c.tag .check []
          (senseWritten l (.illegal .badLength) c.unit c.tag none (taken l c s))))

/-- The reservation step (R6): a mutating command to a unit that another master holds is answered CONFLICT, with no
effect and no sense record.

The busy step (R7): which commands the table answers BUSY, and that such a command has no effect.

The tag check (R8): a command that would start a long operation, while its sender owns one on another unit with the
same tag, is refused with CHECK ABORTED CANCELLED and no value, and its unit is not reached. -/
def Obligations.HeldBusyAndTaggedCommandsAreTurnedAway : Prop :=
  (∀ (i : Instr) (l h : Link) (c : Command) (n : CmdName) (u : UnitId) (s : State),
     instrFrame i = some (l, c) → slotFree l s = true → s.disp.attention.get l = [] →
     CmdName.ofCode c.code = some n → unitFits n c.unit = true → blockFits n c.params = true →
     n.row.cls = .mutating → n.row.target = some u → s.disp.holders.get u = some h → h ≠ l →
     exec i s = .next (answered l c.tag .conflict [] (taken l c s))) ∧
  ((∀ (n : CmdName) (c : Command) (s : State), busy n c s = true ↔
     (s.disp.winchOp.isSome = true ∧
         (n = .winchRun ∨ n = .winchToLength ∨ n = .winchReference ∨ n = .winchFree ∨
           n = .towAssist ∧ byteAt c.params 0 = 1)) ∨
       (s.disp.chassisOp.isSome = true ∧
         (n = .profileWrite ∨ n = .profileRestore ∨ n = .profileCommit ∨ n = .chassisReset ∨ n = .lightWrite ∨
           n = .lightDefine)) ∨
       (s.winch.tow.isSome = true ∧ n = .driveSet)) ∧
   ∀ (i : Instr) (l : Link) (c : Command) (n : CmdName) (s : State),
     instrFrame i = some (l, c) → slotFree l s = true → s.disp.attention.get l = [] →
     CmdName.ofCode c.code = some n → unitFits n c.unit = true → blockFits n c.params = true →
     heldByAnother l n s = false → busy n c s = true →
     exec i s = .next (answered l c.tag .busy [] (taken l c s))) ∧
  (∀ (i : Instr) (l : Link) (c : Command) (n : CmdName) (u : UnitId) (op : LongOp) (s : State),
     instrFrame i = some (l, c) → slotFree l s = true → s.disp.attention.get l = [] →
     CmdName.ofCode c.code = some n → unitFits n c.unit = true → blockFits n c.params = true →
     heldByAnother l n s = false → busy n c s = false →
     (n = .winchToLength ∨ n = .winchReference ∨ n = .profileCommit ∨ n = .showPattern ∧ byteAt c.params 2 ≠ 0) →
     n.row.target ≠ some u → s.disp.op u = some op → op.owner = some l → op.tag = c.tag →
     exec i s = .next (answered l c.tag .check [] (senseWritten l .cancelled c.unit c.tag none (taken l c s))))

/-- No unit mutating command from a master is executed when the unit it addresses is held by another master (R6): in
every state, whatever the screening decides, no unit, no reservation, no last commander and no operation changes. -/
def Obligations.HeldUnitIsLeftAlone : Prop :=
  ∀ (i : Instr) (l h : Link) (c : Command) (n : CmdName) (u : UnitId) (s t : State),
    instrFrame i = some (l, c) → CmdName.ofCode c.code = some n →
    n.row.cls = .mutating → n.row.target = some u → s.disp.holders.get u = some h → h ≠ l →
    exec i s = .next t →
    sameUnits s t ∧ t.disp.holders = s.disp.holders ∧ t.disp.last = s.disp.last ∧
      t.disp.winchOp = s.disp.winchOp ∧ t.disp.lightsOp = s.disp.lightsOp ∧ t.disp.chassisOp = s.disp.chassisOp

/-- A good command frame that finds the slot occupied is discarded with frames-lost set; it has reloaded the timer and
made the link ACTIVE (R163, R164, R23). No command is exempt.
That a command row is the arrival of its frame is the model's choice (log entry 17). -/
def Obligations.FullSlotLosesTheFrame : Prop :=
  ∀ (i : Instr) (l : Link) (c : Command) (s : State),
    instrFrame i = some (l, c) → s.powered = true → (s.ports.get l).slot.isSome = true →
    exec i s = .next (arbitrate { s with
      ports := s.ports.set l { s.ports.get l with
        silence := freshTimer (timeoutOf s.chassis.profile l)
        link := .active
        failsafeFlag := false
        framesLost := true } })

/-! ## The links -/

/-- The bytes of a command frame, received one after the other on a port in HUNT, are that command's arrival, with every
tag, unit, code and parameter block the frame can carry (R161 to R164). -/
def Obligations.CommandFrameBytesAreTheCommand : Prop :=
  ∀ (l : Link) (c : Command) (s : State), c.params.length ≤ 48 → s.powered = true →
    (s.ports.get l).assembly = .hunt → (s.ports.get l).buffer = [] → arbitrate s = s →
    receiveAll l (frameOf ([1, c.tag, c.unit, c.code] ++ c.params)) s = .next (arbitrate (arrive l c s))

/-- A frame whose check does not match leaves no trace: no status, no timer reloaded, no lost flag (R163). -/
def Obligations.BadCheckLeavesNoTrace : Prop :=
  ∀ (l : Link) (body chk : List Byte) (s : State), 4 ≤ body.length → body.length ≤ 52 → chk.length = 2 →
    chk ≠ checkBytes (byteOf body.length :: body) → s.powered = true →
    (s.ports.get l).assembly = .hunt → (s.ports.get l).buffer = [] → arbitrate s = s →
    receiveAll l (0xC5 :: byteOf body.length :: (body ++ chk)) s = .next s

/-- The assembly table (R161), a broken byte (R160) and the 1 ms gap (R161): what a byte that completes no frame does to
its port, and that nothing else changes.

The byte that completes a frame (R163), on a port whose buffer is what its state says: the port returns to HUNT; a frame
whose check does not match does no more; a good frame reloads the timer with the link ACTIVE, and one of kind 1 is then the
command's arrival. The row FRAME_RECEIVED is the taking of that byte: the model's choice (log entry 3). -/
def Obligations.AssemblyFollowsItsTable : Prop :=
  (∀ (l : Link) (b : Byte) (s : State), s.powered = true →
     let q := s.ports.get l
     ((q.assembly = .hunt → exec (.byteReceived l b false) s = .next (arbitrate
         (if b = 0xC5 then setPort l { q with assembly := .length, buffer := [] } s else setPort l q s))) ∧
       (q.assembly = .length → exec (.byteReceived l b false) s = .next (arbitrate
         (if 4 ≤ b.toNat ∧ b.toNat ≤ 52 then setPort l { q with assembly := .body, buffer := [b] } s
           else if b = 0xC5 then setPort l q s
           else setPort l { q with assembly := .hunt, buffer := [] } s))) ∧
       (q.assembly = .body → exec (.byteReceived l b false) s = .next (arbitrate
         (setPort l { q with
           assembly := if (byteAt (q.buffer ++ [b]) 0).toNat + 1 ≤ q.buffer.length + 1 then .check else .body
           buffer := q.buffer ++ [b] } s))) ∧
       (q.assembly = .check → q.buffer.length + 1 < (byteAt (q.buffer ++ [b]) 0).toNat + 3 →
         exec (.byteReceived l b false) s = .next (arbitrate (setPort l { q with buffer := q.buffer ++ [b] } s)))) ∧
     exec (.byteReceived l b true) s =
       .next (arbitrate (setPort l { q with assembly := .hunt, buffer := [] } s)) ∧
     exec (.frameByteTimeout l) s =
       .next (arbitrate (setPort l { q with assembly := .hunt, buffer := [] } s))) ∧
  (∀ (l : Link) (last : Byte) (s : State),
     let buffer := (s.ports.get l).buffer ++ [last]
     let hunting := setPort l { s.ports.get l with assembly := .hunt, buffer := [] } s
     s.powered = true → assemblyFits (s.ports.get l) = true → (s.ports.get l).assembly = .check →
     buffer.length = (byteAt buffer 0).toNat + 3 →
     exec (.byteReceived l last false) s = exec (.frameReceived l last) s ∧
     (frameGood buffer = false → exec (.frameReceived l last) s = .next (arbitrate hunting)) ∧
     (frameGood buffer = true → byteAt buffer 1 = 1 → exec (.frameReceived l last) s =
       .next (arbitrate (arrive l ⟨byteAt buffer 2, byteAt buffer 3, byteAt buffer 4,
         (frameBody buffer).drop 4⟩ hunting))) ∧
     (frameGood buffer = true → byteAt buffer 1 ≠ 1 → exec (.frameReceived l last) s =
       .next (arbitrate (setPort l { s.ports.get l with
         assembly := .hunt
         buffer := []
         silence := freshTimer (timeoutOf s.chassis.profile l)
         link := .active
         failsafeFlag := false } s))))

/-- The transmit arbiter (R167, R168): a busy transmitter is left alone; a waiting status goes first, its flags filled
from the lost flags and the stage, and the lost flags are cleared; otherwise the oldest notice goes; otherwise the line
stays idle. At the end of an event, once its notices have joined the queues, the arbiters choose so, but where a status and
a notice became waiting in it on an idle transmitter the notice may go first (log entry 4: the order is a free value, and
this holds for each of its values).

The end of a sent frame (R164, R168): the transmitter is free, a sent status empties the command slot, and the
arbiter then chooses.

The bytes of a frame and of each notice (R18, R66, R101, R118, R161, R164, R170): sync, length, body and check; the body of a
notice is 3, its kind, unit, tag and data. A payout in mm beyond signed 32 bits has a free value in its field: the model's
choice (log entry 39). -/
def Obligations.TransmitterSendsTheStatusFirst : Prop :=
  (∀ (stage : Stage) (q : Port),
     (∀ f, q.tx = some f → q.startNext stage = q) ∧
     (q.tx = none → ∀ st, q.status = some st → q.startNext stage = { q with
       status := none
       framesLost := false
       noticesLost := false
       tx := some ⟨true, frameOf ([2, st.tag, byteOf st.code.code,
         byteOf ((if q.framesLost then 1 else 0) + (if q.noticesLost then 2 else 0) + 4 * stage.code)]
           ++ st.reply)⟩ }) ∧
     (q.tx = none → q.status = none → ∀ n rest, q.notices = n :: rest → q.startNext stage =
       { q with notices := rest, tx := some ⟨false, noticeBytes n⟩ }) ∧
     (q.tx = none → q.status = none → q.notices = [] → q.startNext stage = q) ∧
     (∀ b, q.tx ≠ none ∨ q.status = none ∨ q.notices = [] → q.arbitrate b stage = q.startNext stage) ∧
     (∀ b n rest, q.tx = none → q.status ≠ none → q.notices = n :: rest → q.arbitrate b stage =
       if b then { q with notices := rest, tx := some ⟨false, noticeBytes n⟩ } else q.startNext stage) ∧
     (∀ s : State, ∃ (pass : Link → Nat → Nat) (b : Link → Bool), ∀ l,
       (arbitrate s).ports.get l = ((s.ports.get l).queueOffered (pass l)).arbitrate (b l) s.supply.stage)) ∧
  (∀ (l : Link) (f : TxFrame) (s : State), s.powered = true → (s.ports.get l).tx = some f →
     exec (.transmitFrameEnd l) s = .next (arbitrate (setPort l (Port.startNext s.supply.stage { s.ports.get l with
       tx := none
       slot := if f.isStatus then none else (s.ports.get l).slot }) s))) ∧
  (∀ body : List Byte, frameOf body = 0xC5 :: byteOf body.length :: (body ++ checkBytes (byteOf body.length :: body))) ∧
  ∀ n : Notice, noticeBytes n = frameOf (match n with
    | .done u tag r =>
      [3, 0, (match u with
          | .drive => 0
          | .steer => 1
          | .winch => 2
          | .lights => 3
          | .supply => 4
          | .chassis => 5
          | .all => 15),
        tag, (match r with
          | .good => 0
          | .cancelled => 1
          | .loadLimit => 2
          | .timeout => 3
          | .cutoff => 4)]
    | .wheel w e v =>
      [3, 1, 0, 0, (match w with
          | .fl => 0
          | .fr => 1
          | .rl => 2
          | .rr => 3),
        (match e with
          | .stallOn => 0
          | .stallOff => 1
          | .fault => 2
          | .faultLatched => 3)] ++ bytes4 v
    | .winch e v =>
      [3, 2, 2, 0, (match e with
          | .limit => 0
          | .load => 1
          | .towEnd => 2)] ++ field4 v
    | .stage new previous v c =>
      [3, 3, 4, 0, byteOf new.code, byteOf previous.code] ++ bytes2 v ++ [(match c with
          | .initial => 0
          | .down => 1
          | .up => 2
          | .clear => 3)]
    | .failsafe l units =>
      [3, 4, 15, 0, (match l with
          | .p => 0
          | .w => 1
          | .s => 2), units])

/-- A notice of a kind other than DONE that is offered (R169): each port whose mask selects its kind takes it, and no other
does; nothing but the ports changes.

The end of a long operation (R18): its DONE goes to the owner's port whatever its mask, or nowhere when there is no
owner, and the slot is emptied; nothing else changes.

The queue at the end of the event (R62, R66, R101, R104, R169): the port appends the notices of the event in an order in
which those of one unit, or of one wheel channel, stand as offered, a DONE being its operation's unit's; each is kept
while the queue holds fewer than 8 and otherwise dropped with notices-lost set. The order between two units or channels
is a free value: the statement holds for each of its values, and every such order comes of one. That a DONE counts as
its operation's unit's is the model's choice (log entry 11). -/
def Obligations.NoticesAreKeptOrDropped : Prop :=
  (∀ (n : Notice) (s : State), n.kindCode ≠ 0 →
     (∀ l, (offer n s).ports.get l =
       let q := s.ports.get l
       if q.mask.getLsbD n.kindCode then { q with offered := q.offered ++ [n] } else q) ∧
     offer n s = { s with ports := (offer n s).ports }) ∧
  (∀ (u : UnitId) (op : LongOp) (r : OpResult) (s : State), s.disp.op u = some op →
     (endOp u r s).disp = s.disp.setOp u none ∧
     (∀ l, (endOp u r s).ports.get l =
       let q := s.ports.get l
       if op.owner = some l then { q with offered := q.offered ++ [.done u op.tag r] } else q) ∧
     endOp u r s = { s with disp := (endOp u r s).disp, ports := (endOp u r s).ports }) ∧
  (let source (n : Notice) : UnitId × Option Wheel := match n with
     | .done u _ _ => (u, none)
     | .wheel w _ _ => (.drive, some w)
     | .winch _ _ => (.winch, none)
     | .stage _ _ _ _ => (.supply, none)
     | .failsafe _ _ => (.all, none)
   let taken (q : Port) (ns : List Notice) : Prop :=
     ∀ x, ns.filter (fun n => source n = x) = q.offered.filter fun n => source n = x
   let queued (q : Port) (ns : List Notice) : Port := { q with
     offered := []
     notices := q.notices ++ ns.take (8 - q.notices.length)
     noticesLost := q.noticesLost || decide (8 - q.notices.length < ns.length) }
   (∀ (q : Port) (pass : Nat → Nat), ∃ ns, taken q ns ∧ q.queueOffered pass = queued q ns) ∧
   ∀ (q : Port) (ns : List Notice), taken q ns → ∃ pass : Nat → Nat, q.queueOffered pass = queued q ns)

/-- The silence of a link (R22, R39, R78, R99, R104, R172): the link becomes SILENT with its timer stopped; DRIVE, STEER
and WINCH take their safe actions where they are affected and are left alone where they are not; the link's tow link
ends; its patterns are closed; the flag, the attention kind and the reservations are as R22 says.

Its last clause gives the whole event: a MOVE or REFERENCE that stops hands DONE CANCELLED, the link's tow link ends with
TOW_END and cause FAILSAFE, and, where a unit is affected, the flag is set, FAILSAFE is posted to every master and the
FAILSAFE notice with the affected units is offered. The order in which a port queues notices of different units is open
(R169; O15). -/
def Obligations.SilenceAppliesFailsafe : Prop :=
  ∀ (l : Link) (e : Nat) (s : State), s.powered = true → (s.ports.get l).link = .active →
    timeoutOf s.chassis.profile l ≠ 0 → (s.ports.get l).silence = some e →
    timeoutOf s.chassis.profile l ≤ e → towFits s →
    ∃ t, exec (.silenceTimeout l) s = .next t ∧
      (t.ports.get l).link = .silent ∧ (t.ports.get l).silence = none ∧
      ((t.ports.get l).failsafeFlag = true ↔
        affectedBy l .drive s ∧ (∀ w, s.winch.tow = some w → w.owner = l) ∨ affectedBy l .steer s ∨
          affectedBy l .winch s ∨ affectedBy l .lights s) ∧
      (affectedBy l .drive s ∧ (∀ w, s.winch.tow = some w → w.owner = l) →
        t.drive.state = .safeHold ∧ t.drive.t = 0 ∧ t.drive.b = 0 ∧ t.drive.bCmd = 0 ∧
          ∀ w, t.wheels.get w = Channel.holdRequest false (s.wheels.get w)) ∧
      (¬(affectedBy l .drive s ∧ ∀ w, s.winch.tow = some w → w.owner = l) →
        (∀ w, s.winch.tow = some w → w.owner ≠ l) → t.drive = s.drive ∧ t.wheels = s.wheels) ∧
      (∀ w, s.winch.tow = some w → w.owner = l →
        t.winch.tow = none ∧ t.drive.state = .safeHold ∧ t.drive.b = 0) ∧
      (affectedBy l .steer s → s.chassis.profile.get .failsafeSteering = 1 → t.steer = { s.steer with s := 0 }) ∧
      (¬affectedBy l .steer s ∨ s.chassis.profile.get .failsafeSteering ≠ 1 → t.steer = s.steer) ∧
      (affectedBy l .winch s → t.winch = { s.winch with
        state := if s.winch.state = .free then .free else .idle
        runSpeed := 0
        moveTarget := none
        moveDir := none
        refTimer := 0
        loadTimer := 0
        bridge := if s.winch.state = .free ∨ s.winch.state = .idle then s.winch.bridge else .brake
        tow := t.winch.tow }) ∧
      (¬affectedBy l .winch s → t.winch = s.winch) ∧
      t.lights = closeLink l s.lights ∧
      t.disp.holders = s.disp.holders ∧ t.disp.last = s.disp.last ∧
      t.supply = s.supply ∧ t.alloc = s.alloc ∧ t.chassis = s.chassis ∧ clockKept s t ∧
      (∀ m, t.disp.attention.get m =
        if (t.ports.get l).failsafeFlag = true then postKind .failsafe (s.disp.attention.get m)
        else s.disp.attention.get m) ∧
      ∃ drive steer winch lights : Bool,
        (drive = true ↔ affectedBy l .drive s ∧ ∀ w, s.winch.tow = some w → w.owner = l) ∧
        (steer = true ↔ affectedBy l .steer s) ∧ (winch = true ↔ affectedBy l .winch s) ∧
        (lights = true ↔ affectedBy l .lights s) ∧
        let s0 := setPort l { s.ports.get l with link := .silent, silence := none, failsafeFlag := false } s
        let s1 := if drive then handHold false { s0 with drive := { s.drive with
            t := 0
            b := 0
            bCmd := 0
            state := .safeHold
            brakeTimer := if s.drive.state = .holding then none else s.drive.brakeTimer } } else s0
        let s2 := { s1 with steer := t.steer }
        let s3 := if winch then
            (let stopped := { s2 with winch := { t.winch with tow := s.winch.tow } }
              if s.winch.state = .move ∨ s.winch.state = .reference then endOp .winch .cancelled stopped else stopped)
          else s2
        let s4 := if s.winch.tow.map TowLink.owner = some l then endTow .failsafe s3 else s3
        let s5 := { s4 with lights := closeLink l s.lights }
        exec (.silenceTimeout l) s = .next (arbitrate
          (if drive || steer || winch || lights then
            offer (.failsafe l (byteOf ((if drive then 1 else 0) + (if steer then 2 else 0) + (if winch then 4 else 0)
                + (if lights then 8 else 0))))
              { setPort l { s5.ports.get l with failsafeFlag := true } s5 with disp := { s5.disp with
                attention := s5.disp.attention.map fun _ q => postKind .failsafe q } }
          else s5))

/-! ## Dispatcher commands and STOP ALL -/

/-- RESERVE (R9, R10), by the first case of its table that applies; last commanders, slots and units stay.

RELEASE (R11): always GOOD; the holder becomes none where it was the sender, and a RELEASE of WINCH by the owner of
the tow link ends the tow link with cause RELEASE. -/
def Obligations.ReserveAndReleaseFollowTheirTables : Prop :=
  (∀ (l : Link) (t u : Byte) (b : List Byte) (x : UnitId) (s : State), admitted .reserve l t u b s = true →
     reservableUnit u = some x →
     let r := taken l ⟨t, u, 0x10, b⟩ s
     exec (.reserve l t u b) s = .next
       (if x = .drive ∧ s.winch.tow.isSome = true ∧ s.winch.tow.map TowLink.owner ≠ some l then
         answered l t .conflict [] r
       else match s.disp.holders.get x with
         | none => answered l t .good [] { r with disp := { s.disp with holders := s.disp.holders.set x (some l) } }
         | some h =>
           if h = l then answered l t .good [] r
           else if byteAt b 0 = 1 ∧ (s.ports.get h).link = .silent then
             answered l t .good [] { r with disp := { s.disp with
               holders := s.disp.holders.set x (some l)
               attention := s.disp.attention.set h (postKind .reservationLost (s.disp.attention.get h)) } }
           else answered l t .conflict [] r)) ∧
  (∀ (l : Link) (t u : Byte) (b : List Byte) (x : UnitId) (s : State), admitted .release l t u b s = true →
     reservableUnit u = some x →
     let r := taken l ⟨t, u, 0x11, b⟩ s
     let given : State := if s.disp.holders.get x = some l then
         { r with disp := { s.disp with holders := s.disp.holders.set x none } } else r
     exec (.release l t u b) s = .next (answered l t .good []
       (if x = .winch ∧ s.winch.tow.map TowLink.owner = some l then endTow .release given else given)))

/-- REPORT SENSE (R15): the 19 bytes of the record, the waiting count, the holders and the last commanders, and the
record then cleared. SET NOTICES (R171): the mask of the sender's port replaced and replied. A payout in mm beyond signed
32 bits leaves a free value in its 4 bytes: the model's choice (log entry 39). -/
def Obligations.SenseAndNoticesCommands : Prop :=
  ∀ (l : Link) (t u : Byte) (b : List Byte) (s : State),
    (admitted .reportSense l t u b s = true →
      let x := s.disp.sense.get l
      let h := s.disp.holders
      let k := s.disp.last
      exec (.reportSense l t u b) s = .next (answered l t .good
        ([byteOf x.reason.keyCode, byteOf x.reason.detailCode, x.unit, x.tag, flagByte x.value.isSome]
          ++ field4 (x.value.getD 0) ++ [byteOf (s.disp.attention.get l).length]
          ++ [h.drive, h.steer, h.winch, h.lights, h.chassis, k.drive, k.steer, k.winch, k.lights].map
              fun m => byteOf (masterCode m))
        (senseWritten l .none 0 0 none (taken l ⟨t, u, 0x12, b⟩ s)))) ∧
    (admitted .setNotices l t u b s = true →
      let r := taken l ⟨t, u, 0x13, b⟩ s
      exec (.setNotices l t u b) s = .next (answered l t .good [byteAt b 0]
        { r with ports := r.ports.set l { r.ports.get l with mask := byteAt b 0 } }))

/-- LINK RESET (R21, R104, R148, R174), answered GOOD: the seven effects; the end of the link's tow link with TOW_END and
cause LINK_RESET and the hold request; and that everything else stays: the other links' ports but for that notice, the
rest of the sender's port, other owners' operations, and the units beyond the stop actions.

Its last clause gives the whole event, in the order of R21. -/
def Obligations.LinkResetClearsTheLinksRecords : Prop :=
  ∀ (l : Link) (t u : Byte) (b : List Byte) (s : State), admitted .linkReset l t u b s = true → towFits s →
    let r := taken l ⟨t, u, 0x07, b⟩ s
    ∃ n, exec (.linkReset l t u b) s = .next n ∧
      (∀ x, n.disp.holders.get x = if s.disp.holders.get x = some l then none else s.disp.holders.get x) ∧
      (∀ x, n.disp.last.get x = if s.disp.last.get x = some l then none else s.disp.last.get x) ∧
      n.disp = {
        holders := s.disp.holders.releaseAll l
        last := s.disp.last.forget l
        attention := s.disp.attention.set l [.linkReset]
        sense := s.disp.sense.set l ⟨.none, 0, 0, none⟩
        winchOp := s.disp.winchOp.filter (fun o => decide (o.owner ≠ some l))
        lightsOp := s.disp.lightsOp.filter (fun o => decide (o.owner ≠ some l))
        chassisOp := s.disp.chassisOp.map (fun o => if o.owner = some l then { o with owner := none } else o) } ∧
      ((n.ports.get l).notices = [] ∧ (n.ports.get l).mask = 0 ∧ (n.ports.get l).framesLost = false ∧
        (n.ports.get l).noticesLost = false) ∧
      portKept { r.ports.get l with mask := 0 } (n.ports.get l) ∧
      (∀ m, m ≠ l → portKept (s.ports.get m) (n.ports.get m)) ∧
      ((∃ w, s.winch.tow = some w ∧ w.owner = l) →
        n.drive = { s.drive with t := 0, b := 0, bCmd := 0, state := .holding } ∧
        ∀ w, n.wheels.get w = Channel.holdRequest false (s.wheels.get w)) ∧
      ((∀ w, s.winch.tow = some w → w.owner ≠ l) → n.drive = s.drive ∧ n.wheels = s.wheels) ∧
      (let tow := s.winch.tow.filter (fun w => decide (w.owner ≠ l));
        n.winch = if s.disp.winchOp.map LongOp.owner = some (some l) then { s.winch with
            state := .idle
            runSpeed := 0
            moveTarget := none
            moveDir := none
            refTimer := 0
            loadTimer := 0
            bridge := .brake
            tow := tow }
          else { s.winch with tow := tow }) ∧
      n.lights = { s.lights with
        base := if s.disp.lightsOp.map LongOp.owner = some (some l) then { s.lights.base with
            staged := s.lights.base.staged.map fun g => { g with transition := .cut }
            fade := s.lights.base.fade.map fun f => { f with ended := true } }
          else s.lights.base
        table := n.lights.table } ∧
      (∀ i : Fin 16, n.lights.table[i] =
        if s.lights.table[i].openBy = some l then { s.lights.table[i] with openBy := none }
        else s.lights.table[i]) ∧
      n.steer = s.steer ∧ n.supply = s.supply ∧ n.alloc = s.alloc ∧ n.chassis = s.chassis ∧ clockKept s n ∧
      (let s1 := if s.winch.tow.map TowLink.owner = some l then endTow .linkReset r else r
        let s2 : State := { s1 with disp := n.disp, winch := n.winch, lights := n.lights }
        n = answered l t .good [] (setPort l { s1.ports.get l with
          notices := []
          offered := []
          mask := 0
          framesLost := false
          noticesLost := false } s2))

/-- STOP ALL (R20, R34, R99): taken past any reservation and any waiting kind; the drive is at rest, the wheels take the
hold request, the winch stops but for IDLE and FREE, the tow link ends, and reservations, last commanders, attention
queues, sense records, STEER, LIGHTS and CHASSIS stay.

Its last clause gives the whole event: a MOVE or REFERENCE that stops hands DONE CANCELLED, a tow link ends with TOW_END
and cause STOP_ALL, and the channels take the hold request. The order in which a port queues notices of different units is
open (R169; O15). -/
def Obligations.StopAllStopsTheVehicle : Prop :=
  ∀ (l : Link) (t u : Byte) (b : List Byte) (s : State), admitted .stopAll l t u b s = true →
    ∃ n, exec (.stopAll l t u b) s = .next n ∧
      n.drive = { s.drive with
        t := 0
        b := 0
        bCmd := 0
        state := if s.drive.state = .safeHold ∧ s.winch.tow = none then .safeHold else .holding
        brakeTimer := if s.drive.state = .driving then some 0 else s.drive.brakeTimer } ∧
      (∀ w, n.wheels.get w = Channel.holdRequest false (s.wheels.get w)) ∧
      n.winch = { s.winch with
        state := if s.winch.state = .free then .free else .idle
        runSpeed := 0
        moveTarget := none
        moveDir := none
        refTimer := 0
        loadTimer := 0
        bridge := if s.winch.state = .free ∨ s.winch.state = .idle then s.winch.bridge else .brake
        tow := none } ∧
      n.disp = { s.disp with
        winchOp := if s.winch.state = .move ∨ s.winch.state = .reference then none else s.disp.winchOp } ∧
      n.steer = s.steer ∧ n.supply = s.supply ∧ n.alloc = s.alloc ∧ n.lights = s.lights ∧ n.chassis = s.chassis ∧
      clockKept s n ∧ (∀ m, m ≠ l → portKept (s.ports.get m) (n.ports.get m)) ∧
      (let stopped : State := { taken l ⟨t, u, 0x70, b⟩ s with winch := { n.winch with tow := s.winch.tow } }
        let s1 := if s.winch.state = .move ∨ s.winch.state = .reference then endOp .winch .cancelled stopped else stopped
        let s2 := if s.winch.tow.isSome = true then endTow .stopAll s1 else s1
        n = answered l t .good [] (handHold false { s2 with drive := n.drive }))

/-- The end of a tow link (R34, R104): the record goes, the drive is zeroed into HOLDING, or SAFE_HOLD for failsafe, with
no brake timer started, the wheels take the hold request, and every link that selects WINCH is offered TOW_END with its
cause, beside the STALL_OFFs of the hold request.

The hold request (R42, R55) and its latch release (R65): what each channel state does with it.
The bridge takes HOLD's mode at the request itself, and the rest timer reads 0 in HOLD: the model's choices (log entries 13
and 49).

The hold request at the four channels (R42, R55, R66): each channel takes it, each one in STALL offers STALL_OFF with
cause HOLD_REQUEST, and nothing but wheels and ports changes. The order in which a port queues those notices is open (R66;
O15). -/
def Obligations.TowLinkEndHaltsTheDrive : Prop :=
  (∀ (c : TowCause) (w : TowLink) (s : State), s.winch.tow = some w → s.drive.state = .towing →
     (endTow c s).winch = { s.winch with tow := none } ∧
     (endTow c s).drive = { s.drive with
       t := 0
       b := 0
       bCmd := 0
       state := if c = .failsafe then .safeHold else .holding } ∧
     (∀ i, (endTow c s).wheels.get i = Channel.holdRequest false (s.wheels.get i)) ∧
     (∀ l, (s.ports.get l).mask.getLsbD 2 = true → ∃ rest, ((endTow c s).ports.get l).offered =
         (s.ports.get l).offered ++ .winch .towEnd c.code :: rest ∧ ∀ n ∈ rest, ∃ i, n = .wheel i .stallOff 3) ∧
     (endTow c s).disp = s.disp ∧ (endTow c s).steer = s.steer ∧ (endTow c s).supply = s.supply ∧
       (endTow c s).alloc = s.alloc ∧ (endTow c s).lights = s.lights ∧ (endTow c s).chassis = s.chassis) ∧
  (∀ (release : Bool) (c : Channel),
     let held : Channel := { c with
       state := .hold
       target := 0
       d := 0
       ePrev := 0
       creep := 0
       settle := 0
       stallTimer := 0
       rest := 0
       bridge := .brake }
     Channel.holdRequest release c =
       match c.state with
       | .run | .stall | .holdActive => held
       | .hold | .fault => { c with target := 0 }
       | .off => if release then { held with history := .none } else { c with target := 0 }) ∧
  (∀ (release : Bool) (s : State), handHold release s =
     offerList ((([Wheel.fl, .fr, .rl, .rr].filter fun w => (s.wheels.get w).state = .stall)).map
         fun w => .wheel w .stallOff 3)
       { s with wheels := ⟨Channel.holdRequest release s.wheels.fl, Channel.holdRequest release s.wheels.fr,
                           Channel.holdRequest release s.wheels.rl, Channel.holdRequest release s.wheels.rr⟩ })

/-! ## DRIVE and STEER commands -/

/-- DRIVE SET (R39, R42, R45): the clamped throttle stored and replied, and the sender made last commander; from SAFE_HOLD
the drive enters HOLDING and hands the hold request; while a wheel is in OFF, CHECK FAULT WHEEL_LATCHED with the number of
such wheels and nothing stored. That this entry to HOLDING hands the request too is the model's reading of R42 (log
entry 37).

DRIVE HOLD (R46): the tow link ends, t, b and b_cmd become 0, the drive is HOLDING with the brake timer started from
DRIVING alone, and every channel takes the hold request with the latch release; no other unit changes. That it does so
also in HOLDING with no wheel latched is the model's choice (log entry 36).

Its last clause gives the whole event: GOOD, a tow link ended with TOW_END and cause DRIVE_HOLD (R104), and the STALL_OFFs of
the hold request (R66). The order in which a port queues these notices is open (R66, R169; O15). -/
def Obligations.DriveCommandsFollowTheirRules : Prop :=
  (∀ (l : Link) (t u : Byte) (b : List Byte) (s : State), admitted .driveSet l t u b s = true →
     let r := taken l ⟨t, u, 0x20, b⟩ s
     let v := clampInt (-1000) 1000 (s16At b 0)
     let off := (s.wheels.list.filter fun c => c.state = .off).length
     (off = 0 → s.drive.state ≠ .safeHold → exec (.driveSet l t u b) s =
       .next (answered l t .good (bytes2 v) (commanded .drive l { r with drive := { s.drive with t := v } }))) ∧
     (off = 0 → s.drive.state = .safeHold → exec (.driveSet l t u b) s =
       .next (answered l t .good (bytes2 v) (commanded .drive l
         (handHold false { r with drive := { s.drive with t := v, state := .holding } })))) ∧
     (off ≠ 0 → exec (.driveSet l t u b) s =
       .next (answered l t .check [] (senseWritten l .wheelLatched u t (some off) r)))) ∧
  (∀ (l : Link) (t u : Byte) (b : List Byte) (s : State), admitted .driveHold l t u b s = true →
     ∃ n, exec (.driveHold l t u b) s = .next n ∧
       n.drive = { s.drive with
         t := 0
         b := 0
         bCmd := 0
         state := .holding
         brakeTimer := if s.drive.state = .driving then some 0 else s.drive.brakeTimer } ∧
       (∀ w, n.wheels.get w = Channel.holdRequest true (s.wheels.get w)) ∧
       n.winch = { s.winch with tow := none } ∧
       n.disp = { s.disp with last := s.disp.last.set .drive l } ∧
       n.steer = s.steer ∧ n.supply = s.supply ∧ n.alloc = s.alloc ∧ n.lights = s.lights ∧ n.chassis = s.chassis ∧
       clockKept s n ∧ (∀ m, m ≠ l → portKept (s.ports.get m) (n.ports.get m)) ∧
       (let r := taken l ⟨t, u, 0x21, b⟩ s
         let s1 := if s.winch.tow.isSome = true then endTow .driveHold r else r
         n = answered l t .good [] (commanded .drive l (handHold true { s1 with drive := n.drive }))))

/-- STEER SET (R74) and STEER MODE (R75): the clamped value stored and replied with its flag, the sender made last
commander, and nothing else changed.

STEER TRIM (R76, R179): the clamped trim goes into the working profile field of its axle and is replied with its flag;
the unsaved flag is set when it changes; no attention kind is posted and nothing else changes. -/
def Obligations.SteerCommandsStoreTheDemand : Prop :=
  (∀ (l : Link) (t u : Byte) (b : List Byte) (s : State),
     (admitted .steerSet l t u b s = true →
       let v := clampInt (-1000) 1000 (s16At b 0)
       exec (.steerSet l t u b) s = .next (answered l t .good
         (bytes2 v ++ [if s16At b 0 = v then 0 else 1])
         (commanded .steer l { taken l ⟨t, u, 0x30, b⟩ s with steer := { s.steer with s := v } }))) ∧
     (admitted .steerMode l t u b s = true →
       let r := min (u16At b 1) 1000
       exec (.steerMode l t u b) s = .next (answered l t .good
         ([byteAt b 0] ++ bytes2 r ++ [if u16At b 1 ≤ 1000 then 0 else 1])
         (commanded .steer l { taken l ⟨t, u, 0x31, b⟩ s with
           steer := { s.steer with mode := steerModeOf (byteAt b 0).toNat, r := r } })))) ∧
  (∀ (l : Link) (t u : Byte) (b : List Byte) (s : State), admitted .steerTrim l t u b s = true →
     let v := clampInt (-150) 150 (s16At b 1)
     let f := if byteAt b 0 = 0 then Field.frontTrim else .rearTrim
     let changed := decide (s.chassis.profile.get f ≠ v)
     exec (.steerTrim l t u b) s = .next (answered l t .good
       (bytes2 v ++ [if s16At b 1 = v then 0 else 1])
       (commanded .steer l { taken l ⟨t, u, 0x32, b⟩ s with
         chassis := { s.chassis with
           profile := s.chassis.profile.set f v
           unsaved := s.chassis.unsaved || changed
           changedSince := s.chassis.changedSince || changed } })))

/-! ## Read commands -/

/-- The read commands (R47, R77, R105, R120, R158, R176, R186) are answered GOOD with their replies, or refused where
their rules say, and change no unit.

The replies of the reports have the lengths of R166's table, R176's 17 bytes and R186's 9 bytes, in every state. A
payout in mm has its 4 bytes within signed 32 bits, and a free value beyond (log entry 39).

The serving order of R127 is in no report: the model's choice between R127 and R133 (log entry 40). So is what the live
source of STATE is during a fade (log entry 42); that between a chassis reset and the next boundary, allocation or motion
period STATE's playback, activities and alert, REPORT SUPPLY's factors and REPORT DRIVE's values are those of the reset (log
entries 43, 44 and 46); and that REPORT DRIVE's wheel states and targets are those of the latest motion period and its
speeds those of the latest regulator period (log entry 19). In STATE, the activities and the mirrored flag shown in MANUAL
(log entry 25) and the 0 shown for a stopped countdown (log entry 47) are choices too. So is REPORT STEER's I_steer, the greater
of the two samples from the first motion period on, where a sentence of R73 keeps it 0 until the second (log entry 38).

The fields of 2 and 4 bytes lie least significant byte first (R166). -/
def Obligations.ReadCommandsReportAndChangeNothing : Prop :=
  (∀ (l : Link) (t u : Byte) (b : List Byte) (s : State),
     (admitted .identify l t u b s = true → exec (.identify l t u b) s = .next (answered l t .good
       ([0x7D, 0x0B, 0x48, 0x00, 1, byteOf s.chassis.status.code, flagByte s.chassis.unsaved,
         flagByte s.disp.chassisOp.isSome, byteOf s.chassis.imageState.code]) (taken l ⟨t, u, 0x01, b⟩ s))) ∧
     (admitted .reportDrive l t u b s = true → 
       let d := s.drive
       let x := d.targets
       let c := s.wheels
       let y := d.wheelStates
       exec (.reportDrive l t u b) s = .next (answered l t .good
         ([byteOf d.state.code] ++ bytes2 d.t ++ bytes2 d.bCmd ++ bytes2 d.b
           ++ bytes2 x.fl ++ bytes2 x.fr ++ bytes2 x.rl ++ bytes2 x.rr
           ++ bytes2 c.fl.m ++ bytes2 c.fr.m ++ bytes2 c.rl.m ++ bytes2 c.rr.m
           ++ [byteOf y.fl.code, byteOf y.fr.code, byteOf y.rl.code, byteOf y.rr.code]
           ++ bytes2 d.gUsed ++ bytes2 d.fLeft ++ bytes2 d.fRight ++ bytes4 d.kappa
           ++ [flagByte d.braking, flagByte d.reverse]) (taken l ⟨t, u, 0x22, b⟩ s))) ∧
     (admitted .reportSteer l t u b s = true → 
       let x := s.steer
       let p := s.chassis.profile
       exec (.reportSteer l t u b) s = .next (answered l t .good
         (bytes2 x.s ++ [byteOf x.mode.code] ++ bytes2 x.r ++ bytes2 x.demand.front ++ bytes2 x.demand.rear
           ++ bytes2 x.delta.front ++ bytes2 x.delta.rear ++ bytes2 x.pulse.front ++ bytes2 x.pulse.rear
           ++ [byteOf x.clamp.front.code, byteOf x.clamp.rear.code]
           ++ bytes2 (p.get .frontTrim) ++ bytes2 (p.get .rearTrim)
           ++ bytes2 (max x.sampleNew x.sampleOld : Nat) ++ [byteOf (p.nat .failsafeSteering)])
         (taken l ⟨t, u, 0x33, b⟩ s))) ∧
     (admitted .reportWinch l t u b s = true → 
       let w := s.winch
       exec (.reportWinch l t u b) s = .next (answered l t .good
         ([byteOf w.state.code, flagByte w.referenced]
           ++ field4 (Int.tdiv (w.count * 100) (s.chassis.profile.get .cp100)) ++ bytes4 w.count ++ bytes4 w.speed
           ++ bytes2 w.current ++ bytes2 w.runSpeed ++ bytes2 w.duty
           ++ [flagByte w.moveTarget.isSome] ++ bytes2 (w.moveTarget.getD 0)
           ++ [if w.moveDir = some .outward then 1 else 0,
               if s.disp.winchOp = none then 0 else if s.disp.winchOp.map LongOp.kind = some .reference then 2 else 1,
               byteOf w.note.code]
           ++ (match w.tow with
             | some x => [1, byteOf (linkIndex x.owner)] ++ bytes2 (min (s.now - x.created) 65535 : Nat)
             | none => [0, 0, 0, 0])
           ++ bytes2 w.gUsed) (taken l ⟨t, u, 0x46, b⟩ s))) ∧
     (admitted .reportSupply l t u b s = true → 
       let x := s.supply
       let a := s.alloc
       exec (.reportSupply l t u b) s = .next (answered l t .good
         ([byteOf x.countUsed] ++ bytes2 x.cells.v1 ++ bytes2 x.cells.v2 ++ bytes2 x.cells.v3 ++ bytes2 x.cells.v4
           ++ bytes2 x.iPack ++ bytes2 x.vMin ++ bytes2 x.vComp ++ [byteOf x.x.code, byteOf x.stage.code]
           ++ bytes2 (min x.down 5000 : Nat)
           ++ [flagByte x.candidate.isSome, byteOf ((x.candidate.map Stage.code).getD 0)]
           ++ bytes2 (min x.up 10000 : Nat) ++ bytes2 a.iSteer ++ bytes4 a.iD ++ bytes2 a.iW ++ bytes2 a.iLest
           ++ bytes2 a.iAvail ++ bytes2 a.capD ++ bytes2 a.capW ++ bytes2 a.capL
           ++ bytes2 a.gD ++ bytes2 a.gW ++ bytes2 a.gL) (taken l ⟨t, u, 0x60, b⟩ s))) ∧
     (admitted .reportLights l t u b s = true →
       let r := taken l ⟨t, u, 0x55, b⟩ s
       let index := (byteAt b 1).toNat
       let x := s.lights
       exec (.reportLights l t u b) s = .next
         (match (byteAt b 0).toNat with
           | 0 => answered l t .good
               (x.base.live.source.bytes ++ [byteOf x.base.live.play.step, byteOf x.base.live.play.countdown]
                 ++ (match x.base.staged with | some g => 1 :: g.bytes | none => [0, 0, 0, 0, 0, 0, 0])
                 ++ (match x.base.fade with
                   | some f => [1, if f.kind = .fade then 1 else 2, byteOf f.k, byteOf f.n, flagByte f.ended]
                   | none => [0, 0, 0, 0, 0])
                 ++ [if s.disp.lightsOp = none then 0 else if s.disp.lightsOp.map LongOp.kind = some .fill then 2 else 1,
                     if x.mode = .auto then 0 else 1, flagByte x.shown.indicator, flagByte x.shown.brake,
                     flagByte x.shown.reverse, flagByte x.mirrored, byteOf (x.overlay.pattern.getD 255),
                     flagByte x.overlay.mirrored, byteOf (match x.alert.selected with
                       | none => 0
                       | some .failsafe => 1
                       | some .cutoff => 2
                       | some .limit => 3
                       | some .winchLoad => 4
                       | some .conserve => 5)]
                 ++ bytes2 x.iLest ++ bytes2 x.gUsed) r
           | 1 => answered l t .good (s.lights.composed.toList.map byteOf) r
           | 2 => answered l t .good (s.lights.outputs.toList.map byteOf) r
           | 3 => if index ≤ 15 then answered l t .good (s.lights.record index).bytes r
               else answered l t .check [] (senseWritten l (.illegal .patternUndefined) u t none r)
           | _ => if index ≤ 63 then answered l t .good (s.lights.frame index).toList r
               else answered l t .check [] (senseWritten l (.illegal .badFrameIndex) u t none r))) ∧
     (admitted .profileRead l t u b s = true →
       let r := taken l ⟨t, u, 0x03, b⟩ s
       exec (.profileRead l t u b) s = .next
         (match Field.ofNumber (byteAt b 0).toNat with
           | some f => answered l t .good
               (byteAt b 0 :: (bytes4 (s.chassis.profile.get f) ++ bytes4 f.row.low ++ bytes4 f.row.high
                 ++ bytes4 f.row.default)) r
           | none => answered l t .check [] (senseWritten l (.illegal .fieldUnknown) u t none r)))) ∧
  (∀ (l : Link) (f : Field) (n : Nat) (s : State),
     (senseReport l s).length = 19 ∧ (driveReport s).length = 39 ∧ (steerReport s).length = 26 ∧
       (winchReport s).length = 32 ∧ (supplyReport s).length = 47 ∧ (lightsReport s).length = 29 ∧
       (s.lights.composed.toList.map byteOf).length = 24 ∧ (s.lights.outputs.toList.map byteOf).length = 24 ∧
       (s.lights.frame n).toList.length = 24 ∧ (s.lights.record n).bytes.length = 6 ∧
       (profileReadReply f s.chassis.profile).length = 17 ∧ (identity s).length = 9) ∧
  (∀ v : Int, (field4 v).length = 4 ∧ (-2147483648 ≤ v → v ≤ 2147483647 → field4 v = bytes4 v) ∧
     bytes2 v = [BitVec.ofInt 8 v, BitVec.ofInt 8 (v / 256)] ∧
     bytes4 v = [BitVec.ofInt 8 v, BitVec.ofInt 8 (v / 256), BitVec.ofInt 8 (v / 65536), BitVec.ofInt 8 (v / 16777216)])

/-! ## WINCH commands -/

/-- WINCH RUN (R87), by the first case of its table that applies: the two refusals with their values, IDLE at speed 0,
RUN_IN or RUN_OUT otherwise, with the bridge braked until the next winch period from IDLE, LOAD_HOLD and FREE and left at
its duty from a run. That a run of speed 0 leaves it so too, and that the load timer runs on from RUN_IN to RUN_IN, are the
model's choices (log entries 20 and 21).

WINCH STOP (R88) leaves every state for IDLE, braked, with the slot's operation ended as CANCELLED; WINCH FREE (R97)
opens the bridge on, brakes it off from FREE, and changes nothing else. -/
def Obligations.WinchRunStopAndFree : Prop :=
  (∀ (l : Link) (t u : Byte) (b : List Byte) (s : State), admitted .winchRun l t u b s = true →
     let r := taken l ⟨t, u, 0x40, b⟩ s
     let w := s.winch
     let v := min (u16At b 1) 1000
     let flag : Byte := if u16At b 1 ≤ 1000 then 0 else 1
     let bridge := if w.state = .free ∨ w.state = .idle ∨ w.state = .loadHold then Bridge.brake else w.bridge
     let mm := Int.tdiv (w.count * 100) (s.chassis.profile.get .cp100)
     exec (.winchRun l t u b) s = .next
       (if byteAt b 0 = 0 ∧ w.state = .loadHold then
         answered l t .check [] (senseWritten l (.limit .loadHold) u t (some w.current) r)
       else if byteAt b 0 ≠ 0 ∧ w.referenced = true ∧ s.chassis.profile.get .payoutLimit ≤ mm then
         answered l t .check [] (senseWritten l (.limit .payoutMax) u t (some mm) r)
       else if v = 0 then
         answered l t .good ([0, 0, 0] ++ [flag]) (commanded .winch l { r with
           winch := { w with state := .idle, runSpeed := 0, loadTimer := 0, note := .none, bridge := bridge } })
       else if byteAt b 0 = 0 then
         answered l t .good ([1] ++ bytes2 v ++ [flag]) (commanded .winch l { r with
           winch := { w with state := .runIn, runSpeed := v, note := .none, bridge := bridge,
                             loadTimer := if w.state = .runIn then w.loadTimer else 0 } })
       else
         answered l t .good ([2] ++ bytes2 v ++ [flag]) (commanded .winch l { r with
           winch := { w with state := .runOut, runSpeed := v, note := .none, bridge := bridge, loadTimer := 0 } }))) ∧
  (∀ (l : Link) (t u : Byte) (b : List Byte) (s : State),
     (admitted .winchStop l t u b s = true →
       exec (.winchStop l t u b) s = .next (answered l t .good [] (commanded .winch l
         (endOp .winch .cancelled { taken l ⟨t, u, 0x41, b⟩ s with
           winch := { s.winch with
             state := .idle
             runSpeed := 0
             moveTarget := none
             moveDir := none
             refTimer := 0
             loadTimer := 0
             bridge := .brake } })))) ∧
     (admitted .winchFree l t u b s = true →
       exec (.winchFree l t u b) s = .next (answered l t .good [] (commanded .winch l
         { taken l ⟨t, u, 0x44, b⟩ s with
           winch :=
             if byteAt b 0 = 1 then
               if s.winch.state = .free then s.winch
               else { s.winch with state := .free, bridge := .opened, runSpeed := 0, loadTimer := 0 }
             else if s.winch.state = .free then { s.winch with state := .idle, bridge := .brake }
             else s.winch }))))

/-- WINCH TO LENGTH (R89): the three refusals in their order; otherwise MOVE with the clamped target and speed, the
direction IN at or below the payout, the slot filled with MOVE, and ACCEPTED with the stored target.

WINCH REFERENCE (R92): the two refusals; otherwise REFERENCE with both timers 0 and the note cleared, the slot filled
with REFERENCE, and ACCEPTED; the referenced flag and the payout stay.

That both leave the bridge until the next winch period as R87 says of WINCH RUN, and that REFERENCE keeps the run speed,
are the model's choices (log entries 20 and 22). So is that WINCH REFERENCE in LOAD_HOLD during CUTOFF is refused with
NOT_READY CUTOFF and not with LIMIT LOAD_HOLD (log entry 51). -/
def Obligations.WinchOperationsStart : Prop :=
  (∀ (l : Link) (t u : Byte) (b : List Byte) (s : State), admitted .winchToLength l t u b s = true →
     let r := taken l ⟨t, u, 0x42, b⟩ s
     let w := s.winch
     let p := s.chassis.profile
     let target := min (u16At b 0) (p.nat .payoutLimit)
     let asked := min (u16At b 2) 1000
     let inward := decide ((target : Int) ≤ Int.tdiv (w.count * 100) (p.get .cp100))
     exec (.winchToLength l t u b) s = .next
       (if s.supply.stage = .cutoff then answered l t .check [] (senseWritten l (.notReady .cutoff) u t none r)
       else if w.referenced = false then
         answered l t .check [] (senseWritten l (.notReady .unreferenced) u t none r)
       else if inward = true ∧ w.state = .loadHold then
         answered l t .check [] (senseWritten l (.limit .loadHold) u t (some w.current) r)
       else answered l t .accepted
         (bytes2 target ++ [if inward then 0 else 1, if u16At b 0 = target then 0 else 1])
         (commanded .winch l (slotFilled .winch .move l t { r with
           winch := { w with
             state := .move
             runSpeed := if asked = 0 then p.nat .slowSpeed else asked
             moveTarget := some target
             moveDir := some (if inward then .inward else .outward)
             note := .none
             loadTimer := 0
             bridge := if w.state = .free ∨ w.state = .idle ∨ w.state = .loadHold then .brake else w.bridge } })))) ∧
  (∀ (l : Link) (t u : Byte) (b : List Byte) (s : State), admitted .winchReference l t u b s = true →
     let r := taken l ⟨t, u, 0x43, b⟩ s
     let w := s.winch
     exec (.winchReference l t u b) s = .next
       (if s.supply.stage = .cutoff then answered l t .check [] (senseWritten l (.notReady .cutoff) u t none r)
       else if w.state = .loadHold then
         answered l t .check [] (senseWritten l (.limit .loadHold) u t (some w.current) r)
       else answered l t .accepted [] (commanded .winch l (slotFilled .winch .reference l t { r with
         winch := { w with
           state := .reference
           refTimer := 0
           loadTimer := 0
           note := .none
           bridge := if w.state = .free ∨ w.state = .idle ∨ w.state = .loadHold then .brake else w.bridge } }))))

/-- TOW ASSIST on (R40, R102), by the first case of its table that applies, and TOW ASSIST off (R103), which ends the tow
link with cause OFF where one exists and changes nothing where none does. -/
def Obligations.TowAssistFollowsItsTable : Prop :=
  ∀ (l : Link) (t u : Byte) (extra : List Byte) (s : State),
    (admitted .towAssist l t u (1 :: extra) s = true →
      let r := taken l ⟨t, u, 0x45, 1 :: extra⟩ s
      exec (.towAssistOn l t u extra) s = .next
        (if s.winch.tow.map TowLink.owner = some l then answered l t .good [] (commanded .winch l r)
        else if s.disp.holders.winch ≠ some l then answered l t .conflict [] r
        else if s.disp.holders.drive ≠ none ∧ s.disp.holders.drive ≠ some l then answered l t .conflict [] r
        else if s.supply.stage = .cutoff then
          answered l t .check [] (senseWritten l (.notReady .cutoff) u t none r)
        else answered l t .good [] (commanded .winch l { r with
          winch := { s.winch with tow := some ⟨l, s.now⟩ }
          drive := { s.drive with
            state := .towing
            brakeTimer := if s.drive.state = .holding then none else s.drive.brakeTimer } }))) ∧
    (admitted .towAssist l t u (0 :: extra) s = true →
      let r := taken l ⟨t, u, 0x45, 0 :: extra⟩ s
      exec (.towAssistOff l t u extra) s = .next (answered l t .good [] (commanded .winch l
        (if s.winch.tow.isSome = true then endTow .off r else r))))

/-! ## LIGHTS commands -/

/-- LIGHT WRITE (R136, R137, R179): a frame index of 64 or more is refused; otherwise the 24 values replace the frame's,
every defined pattern that includes the frame is marked by R137's table, the unsaved flag is set, and the reply counts
those patterns. -/
def Obligations.LightWriteReplacesTheFrame : Prop :=
  ∀ (l : Link) (t u : Byte) (b : List Byte) (s : State), admitted .lightWrite l t u b s = true →
    let r := taken l ⟨t, u, 0x50, b⟩ s
    let index := (byteAt b 0).toNat
    let hit (d : PatternDef) : Bool := d.defined && decide (d.first ≤ index) && decide (index < d.first + d.count)
    (64 ≤ index → exec (.lightWrite l t u b) s =
      .next (answered l t .check [] (senseWritten l (.illegal .badFrameIndex) u t none r))) ∧
    (index < 64 → ∃ x, exec (.lightWrite l t u b) s = .next (answered l t .good
        [byteAt b 0, byteOf (s.lights.table.toList.filter fun y => hit y.defn).length]
        (commanded .lights l { r with
          lights := x, chassis := { s.chassis with unsaved := true, changedSince := true } })) ∧
      (∀ (i : Fin 64) (c : Fin 24), x.store[i][c] =
        if i.val = index then byteAt b (2 + c.val) else s.lights.store[i][c]) ∧
      (∀ i : Fin 16, x.table[i] = { s.lights.table[i] with
        openBy :=
          if hit s.lights.table[i].defn then
            if byteAt b 1 = 1 then some l
            else if s.lights.table[i].openBy = some l then none else s.lights.table[i].openBy
          else s.lights.table[i].openBy }) ∧
      x = { s.lights with store := x.store, table := x.table })

/-- LIGHT DEFINE (R139, R179): the refusals in their order; defined off clears the record; defined on writes it with the
step time clamped and open-by kept; the unsaved flag is set and every other record stays. The layout of the reply, with a
flag of 0 for defined off, is the model's choice (log entry 27). -/
def Obligations.LightDefineWritesTheRecord : Prop :=
  ∀ (l : Link) (t u : Byte) (b : List Byte) (s : State), admitted .lightDefine l t u b s = true →
    let r := taken l ⟨t, u, 0x51, b⟩ s
    let at' (i : Nat) : Nat := (byteAt b i).toNat
    let refused (d : IllegalDetail) : Host.Outcome State Fault Refusal :=
      .next (answered l t .check [] (senseWritten l (.illegal d) u t none r))
    let stored (x : Record) (flag : Byte) : Host.Outcome State Fault Refusal :=
      .next (answered l t .good
        ([flagByte x.defn.defined, byteOf x.defn.first, byteOf x.defn.count, byteOf x.defn.stepTime,
          byteOf x.defn.action.code, byteOf (masterCode x.openBy)] ++ [flag])
        (commanded .lights l { r with
          lights := { s.lights with table := s.lights.table.setIfInBounds (at' 0) x }
          chassis := { s.chassis with unsaved := true, changedSince := true } }))
    exec (.lightDefine l t u b) s =
      if 15 < at' 0 then refused .patternUndefined
      else if at' 1 = 0 then stored ⟨⟨false, 0, 1, 1, .loop⟩, none⟩ 0
      else if 63 < at' 2 then refused .badFrameIndex
      else if at' 3 = 0 ∨ 64 < at' 2 + at' 3 then refused .patternRange
      else stored
        ⟨⟨true, at' 2, at' 3, clampNat 1 100 (at' 4), if at' 5 = 0 then .loop else .once⟩,
          (s.lights.record (at' 0)).openBy⟩
        (if clampNat 1 100 (at' 4) = at' 4 then 0 else 1)

/-- SHOW PATTERN with an allowed source (R143, R144, R19): the clamped parameters become the staged source, a FADE or FILL
in the slot is ended with CANCELLED and its fade marked ended, and the status is GOOD for CUT and ACCEPTED for FADE and
FILL with the slot filled. A pattern that is not defined is refused and nothing changes. That ignored parameters read 0 in
the reply and are not counted as clamped is the model's choice (log entry 15). -/
def Obligations.ShowPatternStagesTheSource : Prop :=
  ∀ (l : Link) (t u : Byte) (b : List Byte) (s : State), admitted .showPattern l t u b s = true →
    let r := taken l ⟨t, u, 0x52, b⟩ s
    let at' (i : Nat) : Nat := (byteAt b i).toNat
    let d := s.lights.defn (at' 1)
    let n := clampNat 1 64 (at' 3)
    let fill := min (at' 4) 254
    let source := if at' 0 = 0 then Source.pattern (at' 1) else .level (min (at' 1) 254)
    let start := if at' 0 = 0 then min (u16At b 5) (d.count - 1) else 0
    let staged (x : Transition) (q : State) : State :=
      { q with lights := { s.lights with base := { s.lights.base with
        staged := some ⟨source, start, x⟩
        fade := if s.disp.lightsOp.isSome then s.lights.base.fade.map fun f => { f with ended := true }
          else s.lights.base.fade } } }
    let free := endOp .lights .cancelled r
    let reply (x : List Byte) (flag : Bool) : List Byte :=
      [byteAt b 0, if at' 0 = 0 then byteAt b 1 else byteOf (min (at' 1) 254)] ++ x ++ [byteOf start, flagByte flag]
    let srcClamped := if at' 0 = 0 then decide (start ≠ u16At b 5) else decide (254 < at' 1)
    (at' 0 = 0 → d.defined = false → exec (.showPattern l t u b) s =
      .next (answered l t .check [] (senseWritten l (.illegal .patternUndefined) u t none r))) ∧
    ((at' 0 = 0 → d.defined = true) → exec (.showPattern l t u b) s = .next
      (if at' 2 = 0 then
        answered l t .good (reply [0, 0, 0] srcClamped) (commanded .lights l (staged .cut free))
      else if at' 2 = 1 then
        answered l t .accepted (reply [1, byteOf n, 0] (srcClamped || decide (n ≠ at' 3)))
          (commanded .lights l (slotFilled .lights .fade l t (staged (.fade n) free)))
      else
        answered l t .accepted
          (reply [2, byteOf n, byteOf fill] (srcClamped || (decide (n ≠ at' 3) || decide (fill ≠ at' 4))))
          (commanded .lights l (slotFilled .lights .fill l t (staged (.fill n fill) free)))))

/-- OVERLAY SET (R150) and LIGHT AUTO (R151): the stored overlay and the SIGNAL mode, and nothing else. -/
def Obligations.OverlayAndAutoSetTheSignalMode : Prop :=
  ∀ (l : Link) (t u : Byte) (b : List Byte) (s : State),
    (admitted .overlaySet l t u b s = true →
      let r := taken l ⟨t, u, 0x53, b⟩ s
      let n := (byteAt b 0).toNat
      exec (.overlaySet l t u b) s = .next
        (if n = 255 ∨ n < 16 ∧ (s.lights.defn n).defined = true then
          answered l t .good [] (commanded .lights l { r with lights := { s.lights with
            mode := .manual
            overlay := { s.lights.overlay with
              pattern := if n = 255 then none else some n
              mirrored := decide (byteAt b 1 = 1)
              restart := true } } })
        else answered l t .check [] (senseWritten l (.illegal .patternUndefined) u t none r))) ∧
    (admitted .lightAuto l t u b s = true →
      let x := s.lights
      exec (.lightAuto l t u b) s = .next (answered l t .good [] (commanded .lights l
        { taken l ⟨t, u, 0x54, b⟩ s with
          lights :=
            if byteAt b 0 = 1 ∧ x.mode = .manual then { x with
              mode := .auto
              indicator := { x.indicator with active := false }
              brake := { x.brake with active := false }
              reverse := { x.reverse with active := false } }
            else if byteAt b 0 ≠ 1 ∧ x.mode = .auto then { x with
              mode := .manual, overlay := { x.overlay with restart := true } }
            else x })))

/-! ## SUPPLY and CHASSIS commands -/

/-- SUPPLY CLEAR (R115, R117): outside CUTOFF GOOD with no effect; in CUTOFF refused below T_LIMIT + H; otherwise the stage
is LIMIT with the counters cleared, STAGE_CHANGED is posted to every master, and no other unit changes. -/
def Obligations.SupplyClearLeavesCutoff : Prop :=
  ∀ (l : Link) (t u : Byte) (b : List Byte) (s : State), admitted .supplyClear l t u b s = true →
    let r := taken l ⟨t, u, 0x61, b⟩ s
    let level := s.chassis.profile.nat .thresholdLimit + s.chassis.profile.nat .hysteresis
    (s.supply.stage ≠ .cutoff → exec (.supplyClear l t u b) s = .next (answered l t .good [] r)) ∧
    (s.supply.stage = .cutoff → s.supply.vComp < level → exec (.supplyClear l t u b) s =
      .next (answered l t .check [] (senseWritten l (.notReady .cutoff) u t none r))) ∧
    (s.supply.stage = .cutoff → level ≤ s.supply.vComp → exec (.supplyClear l t u b) s =
      .next (answered l t .good [] { offer (.stage .limit .cutoff s.supply.vComp .clear) r with
        supply := { s.supply with stage := .limit, down := 0, up := 0, candidate := none }
        disp := { s.disp with
          attention := s.disp.attention.map fun _ q => postKind .stageChanged q } }))

/-- PROFILE WRITE (R177, R178, R179): an unknown number and a broken order rule are refused; otherwise the clamped value is
stored and replied, PROFILE_CHANGED goes to the other two masters and the unsaved flag is set when the value differs, and
then the field's effect at the write is made. A write that changes a pattern field marks the source that plays it, or the
ALERT layer where it is the selected alert's field, to restart at its next boundary (R156).

What a field does at its write (R70, R90, R100, R173, R177): A_lock clamps the demands and the slewed angles, a silence
timeout restarts or stops the timer of an ACTIVE link, cp100 and L_max clamp an outward MOVE's target and make the payout
checks, and every other field does nothing at the write. That the effect is made also when the value does not change, so
that a silence timer restarts then too, is the model's choice (log entry 28). -/
def Obligations.ProfileWriteStoresTheClampedValue : Prop :=
  (∀ (l : Link) (t u : Byte) (b : List Byte) (s : State), admitted .profileWrite l t u b s = true →
     let r := taken l ⟨t, u, 0x04, b⟩ s
     let refused (d : IllegalDetail) : Host.Outcome State Fault Refusal :=
       .next (answered l t .check [] (senseWritten l (.illegal d) u t none r))
     (Field.ofNumber (byteAt b 0).toNat = none → exec (.profileWrite l t u b) s = refused .fieldUnknown) ∧
     ∀ f, Field.ofNumber (byteAt b 0).toNat = some f →
       let sent := s32At b 1
       let v := clampField f sent
       let changed := decide (s.chassis.profile.get f ≠ v)
       let x := s.lights
       let marked : Lights := match f with
         | .indicatorPattern => { x with indicator := { x.indicator with rewritten := true } }
         | .brakePattern => { x with brake := { x.brake with rewritten := true } }
         | .reversePattern => { x with reverse := { x.reverse with rewritten := true } }
         | _ =>
           if f = .failsafePattern ∧ x.alert.selected = some .failsafe ∨
               f = .cutoffPattern ∧ x.alert.selected = some .cutoff ∨
               f = .limitPattern ∧ x.alert.selected = some .limit ∨
               f = .winchLoadPattern ∧ x.alert.selected = some .winchLoad ∨
               f = .conservePattern ∧ x.alert.selected = some .conserve then
             { x with alert := { x.alert with rewritten := true } }
           else x
       (orderRulesFor f (s.chassis.profile.set f v) = false →
         exec (.profileWrite l t u b) s = refused .orderViolation) ∧
       (orderRulesFor f (s.chassis.profile.set f v) = true →
         exec (.profileWrite l t u b) s = .next (answered l t .good
           (byteAt b 0 :: (bytes4 v ++ [if sent = v then 0 else 1]))
           (fieldWritten f { r with
             chassis := { s.chassis with
               profile := s.chassis.profile.set f v
               unsaved := s.chassis.unsaved || changed
               changedSince := s.chassis.changedSince || changed }
             lights := if changed = true then marked else x
             disp := { s.disp with attention := s.disp.attention.map fun i q =>
               if i ≠ l ∧ changed = true then postKind .profileChanged q else q } })))) ∧
  (∀ s : State,
     (let a := s.chassis.profile.get .lockAngle;
       fieldWritten .lockAngle s = { s with steer := { s.steer with
         demand := ⟨clampInt (-a) a s.steer.demand.front, clampInt (-a) a s.steer.demand.rear⟩
         delta := ⟨clampInt (-a) a s.steer.delta.front, clampInt (-a) a s.steer.delta.rear⟩ } }) ∧
     (∀ l, fieldWritten (.silenceTimeout l) s =
       if (s.ports.get l).link = .active then
         setPort l { s.ports.get l with
           silence := if s.chassis.profile.nat (.silenceTimeout l) = 0 then none else some 0 } s
       else s) ∧
     (∀ f, f = .cp100 ∨ f = .payoutLimit →
       fieldWritten f s = payoutChecks (if s.winch.state = .move ∧ s.winch.moveDir = some .outward then
         { s with winch := { s.winch with
           moveTarget := s.winch.moveTarget.map fun x => min x (s.chassis.profile.nat .payoutLimit) } }
         else s)) ∧
     ∀ f, f ≠ .lockAngle → f ≠ .cp100 → f ≠ .payoutLimit → (∀ l, f ≠ .silenceTimeout l) → fieldWritten f s = s)

/-- A commit (R180, R181, R182). PROFILE COMMIT is refused in SETTLING, and otherwise copies the profile, the store and the
table into the snapshot, makes the image state WRITING, and fills the slot. The end of the write puts the snapshot and its
check word into the image, clears the unsaved flag unless a change came since the acceptance, and hands DONE GOOD. SETTLING
ends in READY. The bytes the check word is computed over have widths that are the model's choice (log entry 7). -/
def Obligations.CommitRunsThroughItsStates : Prop :=
  (∀ (l : Link) (t u : Byte) (b : List Byte) (s : State), admitted .profileCommit l t u b s = true →
    let r := taken l ⟨t, u, 0x05, b⟩ s
    exec (.profileCommit l t u b) s = .next
      (if s.chassis.imageState = .settling then
        answered l t .check [] (senseWritten l (.notReady .commitActive) u t none r)
      else answered l t .accepted [] (slotFilled .chassis .commit l t { r with
        chassis := { s.chassis with
          snapshot := some ⟨s.chassis.profile, s.lights.store, defsOf s.lights.table⟩
          imageState := .writing
          changedSince := false } }))) ∧
  (∀ (c : ImageContents) (s : State), s.powered = true → s.chassis.imageState = .writing →
    s.chassis.snapshot = some c →
    exec .commitWriteComplete s = .next (arbitrate (endOp .chassis .good { s with
      chassis := { s.chassis with
        image := ⟨c, crc16 c.bytes⟩
        snapshot := none
        status := .loaded
        unsaved := s.chassis.unsaved && s.chassis.changedSince
        imageState := .settling
        settleElapsed := 0 } }))) ∧
  (∀ s : State, s.powered = true → s.chassis.imageState = .settling → 20 ≤ s.chassis.settleElapsed →
    exec .settlingEnd s = .next (arbitrate { s with chassis := { s.chassis with imageState := .ready } }))

/-- PROFILE RESTORE (R157, R180, R183): refused in SETTLING; in READY the profile, the store and the table are the image's
when its check is good and the defaults, zeroes and undefined records otherwise; open-by, the unsaved flag, the posting
to all three masters, the status replied, and what stays.

The restored fields then have their effects at the write (R70, R84, R90, R91, R173): A_lock clamps the angles, cp100 and
L_max act on the winch, the silence timers restart. That they come in this order, with all values loaded first, is the
model's choice (log entry 26).

A pattern field that the restore changes is marked as a write would mark it (R156, R183): the model's choice beside R157
(log entry 24). -/
def Obligations.RestoreTakesTheImage : Prop :=
  ∀ (l : Link) (t u : Byte) (b : List Byte) (s : State), admitted .profileRestore l t u b s = true →
    let r := taken l ⟨t, u, 0x06, b⟩ s
    (s.chassis.imageState = .settling → exec (.profileRestore l t u b) s =
      .next (answered l t .check [] (senseWritten l (.notReady .commitActive) u t none r))) ∧
    (s.chassis.imageState = .ready → ∃ n x,
      exec (.profileRestore l t u b) s = .next (answered l t .good [if s.chassis.image.good then 0 else 1] n) ∧
      (s.chassis.image.good = true →
        n.chassis = { s.chassis with
          profile := s.chassis.image.contents.profile, status := .loaded, unsaved := false } ∧
        n.lights.store = s.chassis.image.contents.store ∧
        defsOf n.lights.table = s.chassis.image.contents.table) ∧
      (s.chassis.image.good = false →
        n.chassis = { s.chassis with profile := .defaults, status := .defaults, unsaved := false } ∧
        n.lights.store = Vector.replicate 64 (Vector.replicate 24 0) ∧
        defsOf n.lights.table = Vector.replicate 16 .undefined) ∧
      (∀ i : Fin 16, n.lights.table[i].openBy = none) ∧
      (let differs (f : Field) : Bool := decide (s.chassis.profile.get f ≠ n.chassis.profile.get f)
        let y := s.lights
        n.lights = { y with
          store := n.lights.store
          table := n.lights.table
          indicator := { y.indicator with rewritten := y.indicator.rewritten || differs .indicatorPattern }
          brake := { y.brake with rewritten := y.brake.rewritten || differs .brakePattern }
          reverse := { y.reverse with rewritten := y.reverse.rewritten || differs .reversePattern }
          alert := { y.alert with rewritten := y.alert.rewritten || (match y.alert.selected with
            | none => false
            | some .failsafe => differs .failsafePattern
            | some .cutoff => differs .cutoffPattern
            | some .limit => differs .limitPattern
            | some .winchLoad => differs .winchLoadPattern
            | some .conserve => differs .conservePattern) } }) ∧
      (∀ m, n.disp.attention.get m = postKind .profileChanged (s.disp.attention.get m)) ∧
      n.disp.holders = s.disp.holders ∧ n.disp.last = s.disp.last ∧ n.disp.sense = s.disp.sense ∧
      n.disp.lightsOp = s.disp.lightsOp ∧ n.disp.chassisOp = s.disp.chassisOp ∧
      n.drive = s.drive ∧ n.wheels = s.wheels ∧ n.supply = s.supply ∧ n.alloc = s.alloc ∧
      (let a := n.chassis.profile.get .lockAngle;
        n.steer = { s.steer with
          demand := ⟨clampInt (-a) a s.steer.demand.front, clampInt (-a) a s.steer.demand.rear⟩
          delta := ⟨clampInt (-a) a s.steer.delta.front, clampInt (-a) a s.steer.delta.rear⟩ }) ∧
      n.winch.tow = s.winch.tow ∧ n.winch.count = s.winch.count ∧ n.winch.referenced = s.winch.referenced ∧
      (s.winch.state ≠ .move → s.winch.state ≠ .runOut → n.winch = s.winch ∧ n.disp.winchOp = s.disp.winchOp) ∧
      (∀ m, (n.ports.get m).link = (r.ports.get m).link ∧ (n.ports.get m).silence =
        if (r.ports.get m).link = .active then
          (if n.chassis.profile.nat (.silenceTimeout m) = 0 then none else some 0)
        else (r.ports.get m).silence) ∧
      x = { r with
        chassis := n.chassis
        lights := n.lights
        disp := { s.disp with attention := s.disp.attention.map fun _ q => postKind .profileChanged q } } ∧
      n = fieldWritten (.silenceTimeout .s) (fieldWritten (.silenceTimeout .w) (fieldWritten (.silenceTimeout .p)
        (fieldWritten .payoutLimit (fieldWritten .lockAngle x)))) ∧
      clockKept s n)

/-- CHASSIS RESET (R185 and the reset rule of each chapter): refused in SETTLING. In READY the profile, the store, the
table and the profile status are loaded from the image, and every block takes its reset values but for what the rules
keep; a link whose elapsed silence reaches the reloaded timeout becomes SILENT with its flag clear (R173); the GOOD is
then placed.

That a wheel's bridge is braked at the reset itself is the model's choice (log entry 13), so is that the winch's is, from
every state (log entry 50), and so are the count the drum
speed is measured from and the g_W used, which are kept (log entry 9). -/
def Obligations.ChassisResetKeepsWhatTheRulesKeep : Prop :=
  ∀ (l : Link) (t u : Byte) (b : List Byte) (s : State), admitted .chassisReset l t u b s = true →
    let r := taken l ⟨t, u, 0x02, b⟩ s
    (s.chassis.imageState = .settling → exec (.chassisReset l t u b) s =
      .next (answered l t .check [] (senseWritten l (.notReady .commitActive) u t none r))) ∧
    (s.chassis.imageState = .ready → ∃ n, exec (.chassisReset l t u b) s = .next (answered l t .good [] n) ∧
      (s.chassis.image.good = true →
        n.chassis = { s.chassis with
          profile := s.chassis.image.contents.profile, status := .loaded, unsaved := false } ∧
        n.lights.store = s.chassis.image.contents.store ∧
        defsOf n.lights.table = s.chassis.image.contents.table) ∧
      (s.chassis.image.good = false →
        n.chassis = { s.chassis with profile := .defaults, status := .defaults, unsaved := false } ∧
        n.lights.store = Vector.replicate 64 (Vector.replicate 24 0) ∧
        defsOf n.lights.table = Vector.replicate 16 .undefined) ∧
      (∀ i : Fin 16, n.lights.table[i].openBy = none) ∧
      n.disp = ⟨⟨none, none, none, none, none⟩, ⟨none, none, none, none⟩,
        ⟨[.restarted], [.restarted], [.restarted]⟩, ⟨⟨.none, 0, 0, none⟩, ⟨.none, 0, 0, none⟩, ⟨.none, 0, 0, none⟩⟩,
        none, none, none⟩ ∧
      (∀ m, let q := r.ports.get m
        let timeout := n.chassis.profile.nat (.silenceTimeout m)
        let due := q.link = .active ∧ timeout ≠ 0 ∧ ∃ e, q.silence = some e ∧ timeout ≤ e
        (due → n.ports.get m = { q with notices := [], offered := [], mask := 0, framesLost := false,
                                        noticesLost := false, link := .silent, silence := none, failsafeFlag := false }) ∧
        (¬due → n.ports.get m = { q with
          notices := []
          offered := []
          mask := 0
          framesLost := false
          noticesLost := false
          silence := if q.link = .silent then q.silence else if timeout = 0 then none
            else some (q.silence.getD 0) })) ∧
      (n.drive.state = .holding ∧ n.drive.t = 0 ∧ n.drive.b = 0 ∧ n.drive.bCmd = 0 ∧ n.drive.bLast = 0 ∧
        n.drive.kappa = 0 ∧ n.drive.fLeft = 16384 ∧ n.drive.fRight = 16384 ∧ n.drive.targets = ⟨0, 0, 0, 0⟩ ∧
        n.drive.brakeTimer = none ∧ n.drive.braking = false ∧ n.drive.reverse = false) ∧
      (∀ w, let c := s.wheels.get w
        let k := n.wheels.get w
        k.state = .hold ∧ k.target = 0 ∧ k.d = 0 ∧ k.ePrev = 0 ∧ k.creep = 0 ∧ k.settle = 0 ∧ k.stallTimer = 0 ∧
          k.rest = 0 ∧ k.history = .none ∧ k.bridge = .brake ∧
          k.window = c.window ∧ k.m = c.m ∧ k.current = c.current) ∧
      n.steer = { s.steer with s := 0, mode := .front, r := 1000, demand := ⟨0, 0⟩, delta := ⟨0, 0⟩ } ∧
      n.winch = { s.winch with
        state := .idle
        runSpeed := 0
        moveTarget := none
        moveDir := none
        duty := 0
        bridge := .brake
        refTimer := 0
        loadTimer := 0
        note := .none
        tow := none } ∧
      n.supply = s.supply ∧
      n.alloc = { s.alloc with
        gD := if s.supply.stage = .cutoff then 0 else 1024
        gW := if s.supply.stage = .cutoff then 0 else 1024
        gL := 1024 } ∧
      (let k := n.chassis.profile.nat .startPattern;
        n.lights.base.live.source = (if (n.lights.defn k).defined then .pattern k else .level 0) ∧
          n.lights.base.live.play.step = 0) ∧
      (n.lights.base.staged = none ∧ n.lights.base.fade = none ∧ n.lights.mode = .auto ∧
        n.lights.indicator.active = false ∧ n.lights.brake.active = false ∧ n.lights.reverse.active = false ∧
        n.lights.mirrored = false ∧ n.lights.overlay.pattern = none ∧ n.lights.overlay.mirrored = false ∧
        n.lights.alert.selected = none ∧ n.lights.composed = s.lights.composed ∧
        n.lights.outputs = s.lights.outputs ∧ n.lights.iLest = s.lights.iLest ∧
        n.lights.gUsed = s.lights.gUsed) ∧
      clockKept s n)

/-! ## The motion period and the servo frames -/

/-- The motion period (R25 to R33, R35 to R38, R43, R44, R54, R69, R73): angles slewed, curvature and side factors, base
speed command and ramp, targets under g_D, the drive state, the signals, the targets handed to the channels, and the hold
request where DRIVING becomes HOLDING; the brake timer, started there, stopped on leaving HOLDING and kept otherwise; the
wheel states that REPORT DRIVE gives, those after the hold request, which is the model's choice (R47; log entry 19); the
other units stay. That a throttle whose b_cmd truncates to 0 leaves the drive in HOLDING is the model's choice between
R38 and R39 (log entry 48). -/
def Obligations.MotionPeriodComputesTheTargets : Prop :=
  ∀ (m : Nat) (s : State), s.powered = true →
    let p := s.chassis.profile
    let angle := Int.tdiv (s.steer.s * p.get .lockAngle) 1000
    let dem : PerAxle Int := match s.steer.mode with
      | .front => ⟨angle, 0⟩
      | .rear => ⟨0, -angle⟩
      | .counter => ⟨angle, -(Int.tdiv (angle * (s.steer.r : Int)) 1000)⟩
      | .crab => ⟨angle, angle⟩
    let slewed (demand delta : Int) : Int :=
      if mag (demand - delta) ≤ p.get .slewStep then demand
      else if delta < demand then delta + p.get .slewStep else delta - p.get .slewStep
    let df := slewed dem.front s.steer.delta.front
    let dr := slewed dem.rear s.steer.delta.rear
    let kappa := Int.tdiv ((tanQ df - tanQ dr) * 1000) (p.get .wheelbase)
    let off := Int.tdiv (kappa * p.get .track) 2000
    let fl := clampInt 0 32767 (16384 + off)
    let fr := clampInt 0 32767 (16384 - off)
    let hauling := s.winch.state = .runIn ∨ s.winch.state = .reference ∨
      s.winch.state = .move ∧ s.winch.moveDir = some .inward
    let tow := if hauling then clampInt (-(p.get .fullSpeed)) (p.get .fullSpeed)
        (roundDiv (s.winch.speed * p.get .wheelCp100 * p.get .towRatio) (p.get .cp100 * 1000))
      else 0
    let cmd := if s.winch.tow.isSome = true then tow
      else Int.tdiv ((if mag s.drive.t ≤ p.get .deadband then 0 else s.drive.t) * p.get .fullSpeed) 1000
    let b := if mag (cmd - s.drive.b) ≤ p.get .rampStep then cmd
      else if s.drive.b < cmd then s.drive.b + p.get .rampStep else s.drive.b - p.get .rampStep
    let target (f : Int) : Int :=
      clampInt (-4000) 4000 (roundDiv (roundDiv (b * f) 16384 * (s.alloc.gD : Int)) 1024)
    ∃ n, exec (.motionPeriod m) s = .next n ∧
      n.steer = { s.steer with
        demand := dem, delta := ⟨df, dr⟩, sampleNew := min m 10000, sampleOld := s.steer.sampleNew } ∧
      (n.drive.kappa = kappa ∧ n.drive.fLeft = fl ∧ n.drive.fRight = fr ∧ n.drive.bCmd = cmd ∧ n.drive.b = b ∧
        n.drive.bLast = b ∧ n.drive.t = s.drive.t ∧ n.drive.gUsed = s.alloc.gD ∧
        n.drive.targets = ⟨target fl, target fr, target fl, target fr⟩) ∧
      n.drive.state = (match s.drive.state with
        | .holding | .driving => if b = 0 ∧ cmd = 0 then .holding else .driving
        | .towing => .towing
        | .safeHold => .safeHold) ∧
      n.drive.reverse = decide (b < 0) ∧
      n.drive.braking = (decide (mag b < mag s.drive.bLast) || match n.drive.brakeTimer with
        | some e => decide (e < p.nat .brakeHoldTime)
        | none => false) ∧
      n.drive.brakeTimer = (if s.drive.state = .driving ∧ n.drive.state = .holding then some 0
        else if s.drive.state = .holding ∧ n.drive.state ≠ .holding then none else s.drive.brakeTimer) ∧
      (∀ w, n.drive.wheelStates.get w = (n.wheels.get w).state) ∧
      (s.drive.state = .driving → n.drive.state = .holding → n.drive.brakeTimer = some 0 ∧
        ∀ w, n.wheels.get w = Channel.holdRequest false (s.wheels.get w)) ∧
      (¬(s.drive.state = .driving ∧ n.drive.state = .holding) →
        ∀ w, n.wheels.get w = { s.wheels.get w with target := n.drive.targets.get w }) ∧
      n.winch = s.winch ∧ n.supply = s.supply ∧ n.alloc = s.alloc ∧ n.lights = s.lights ∧ n.chassis = s.chassis ∧
      n.disp = s.disp ∧ clockKept s n ∧ portsKept s n

/-- The servo frame of an axle (R71, R72): the pulse is 1500 + trim + round(δ·gain/10), held to the axle's endpoints with
its flag; the other axle and everything else stay.

The interpolated tangent (R29): the table at whole degrees, the truncated interpolation between them, and odd in its
angle. -/
def Obligations.ServoFrameSetsThePulse : Prop :=
  (∀ (a : Axle) (s : State), s.powered = true →
     let p := s.chassis.profile
     let w := 1500 + axleTrim p a + roundDiv (s.steer.delta.get a * axleGain p a) 10
     exec (.servoFrame a) s = .next (arbitrate { s with steer := { s.steer with
       pulse := s.steer.pulse.set a (if w < axleMin p a then axleMin p a else if axleMax p a < w then axleMax p a else w)
       clamp := s.steer.clamp.set a
         (if w < axleMin p a then .low else if axleMax p a < w then .high else .none) } })) ∧
  (tanTable = [0, 286, 572, 859, 1146, 1433, 1722, 2012, 2303, 2595, 2889, 3185, 3483, 3783, 4085, 4390, 4698, 5009, 5323,
     5641, 5963, 6289, 6620, 6955, 7295, 7640, 7991, 8348, 8712, 9082, 9459, 9845, 10238, 10640, 11051, 11472, 11904,
     12346, 12801, 13268, 13748] ∧
   (∀ k : Nat, k ≤ 40 → tanQ (10 * (k : Int)) = tanTable.getD k 0) ∧
   (∀ k j : Nat, k < 40 → 0 < j → j < 10 → tanQ (10 * (k : Int) + j) =
     tanTable.getD k 0 + Int.tdiv ((tanTable.getD (k + 1) 0 - tanTable.getD k 0) * j) 10) ∧
   ∀ a : Int, tanQ (-a) = -tanQ a)

/-! ## The regulator period -/

/-- The regulator period of a wheel in RUN without a trip and without a stall due (R50 to R53, R59, R64): the speed window
and m, the current, the incremental regulator under the limit of 1000, the stall timer, the fault window, and the bridge;
the other wheels and units stay.

A stored target that is not 0 (R53, R54): a wheel in HOLD goes to RUN with its regulator memory at 0, one in HOLD_ACTIVE
goes to RUN and keeps it, and both are regulated toward the target in the same period. What the timers of the state that is
left read in RUN is the model's choice (log entry 49). -/
def Obligations.RegulatorDrivesARunningWheel : Prop :=
  (∀ (w : Wheel) (count : Int) (sense : Nat) (s : State), s.powered = true →
    let p := s.chassis.profile
    let c := s.wheels.get w
    let m := clampInt (-30000) 30000 ((c.window.drop 1 ++ [count]).sum * 50)
    let e := c.target - m
    let d := clampInt (-1000) 1000 (c.d + Int.tdiv (p.get .kp * (e - c.ePrev) + p.get .ki * e) 256)
    let stalling := decide (p.get .stallDuty ≤ mag d) && decide (mag m ≤ p.get .stallSpeed)
    c.state = .run → (min sense 45000 : Nat) ≤ p.get .faultTrip →
    ¬(stalling = true ∧ p.nat .stallTime ≤ c.stallTimer + 1) →
    exec (.regulatorPeriod w count sense) s = .next (arbitrate { s with wheels := s.wheels.set w { c with
      window := c.window.drop 1 ++ [count]
      m := m
      current := min sense 45000
      d := d
      ePrev := e
      stallTimer := if stalling then c.stallTimer + 1 else 0
      history := (match c.history with
        | .armed x => if 2000 ≤ x + 1 then .none else .armed (x + 1)
        | .none => .none
        | .latched => .latched)
      bridge := .driven d } })) ∧
  (∀ (w : Wheel) (count : Int) (sense : Nat) (s : State), s.powered = true →
    let p := s.chassis.profile
    let c := s.wheels.get w
    let m := clampInt (-30000) 30000 ((c.window.drop 1 ++ [count]).sum * 50)
    let e := c.target - m
    let regulated (d0 e0 : Int) : Int := clampInt (-1000) 1000 (d0 + Int.tdiv (p.get .kp * (e - e0) + p.get .ki * e) 256)
    let running (d : Int) (creep : Nat) : Channel := { c with
      state := .run
      window := c.window.drop 1 ++ [count]
      m := m
      current := min sense 45000
      d := d
      ePrev := e
      creep := creep
      settle := 0
      stallTimer := if decide (p.get .stallDuty ≤ mag d) && decide (mag m ≤ p.get .stallSpeed) then 1 else 0
      rest := 0
      history := (match c.history with
        | .armed x => if 2000 ≤ x + 1 then .none else .armed (x + 1)
        | .none => .none
        | .latched => .latched)
      bridge := .driven d }
    c.target ≠ 0 → 1 < p.nat .stallTime →
    (c.state = .hold → exec (.regulatorPeriod w count sense) s = .next (arbitrate { s with
      wheels := s.wheels.set w (running (regulated 0 0) (c.creep + count.natAbs)) })) ∧
    (c.state = .holdActive → (min sense 45000 : Nat) ≤ p.get .faultTrip → s.supply.stage ≠ .cutoff →
      ¬(m = 0 ∧ 200 ≤ c.settle + 1) → exec (.regulatorPeriod w count sense) s = .next (arbitrate { s with
        wheels := s.wheels.set w (running (regulated c.d c.ePrev) c.creep) })))

/-- A trip (R62, R64): a sample above the fault trip in a driven state opens the bridge and clears the regulator; it is a
first fault, unless one lies less than 2000 ms back, and then latches the channel in OFF; a stall's STALL_OFF is offered
before the FAULT or FAULT_LATCHED notice. A trip at exactly 2000 ms is a first fault: the model's choice (log entry 12). So is
the rest timer of 0 at the entry to OFF (log entry 49). -/
def Obligations.TripOpensOrLatchesTheWheel : Prop :=
  ∀ (w : Wheel) (count : Int) (sense : Nat) (s : State), s.powered = true →
    let p := s.chassis.profile
    let c := s.wheels.get w
    let cur := min sense 45000
    let first := (match c.history with
      | .none => true
      | .armed x => decide (2000 ≤ x + 1)
      | .latched => false)
    let n : State := { s with wheels := s.wheels.set w { c with
      window := c.window.drop 1 ++ [count]
      m := clampInt (-30000) 30000 ((c.window.drop 1 ++ [count]).sum * 50)
      current := cur
      state := if first then .fault else .off
      history := if first then .armed 0 else .latched
      d := 0
      ePrev := 0
      settle := 0
      stallTimer := 0
      rest := 0
      bridge := .opened } }
    (c.state = .run ∨ c.state = .stall ∨ c.state = .holdActive) → p.get .faultTrip < (cur : Int) →
    exec (.regulatorPeriod w count sense) s = .next (arbitrate
      (offer (.wheel w (if first then .fault else .faultLatched) cur)
        (if c.state = .stall then offer (.wheel w .stallOff 4) n else n)))

/-- The entry to STALL (R59, R66): a running wheel whose stall condition has lasted the stall time has its duty clamped to
the stall cap, the timers cleared and STALL_ON offered with the duty before the clamp. The stall sign is that of the
target; for a target of 0, which R59 does not cover, it is the free value of log entry 5, whatever that is. -/
def Obligations.StallTimeCapsTheWheel : Prop :=
  ∀ (w : Wheel) (count : Int) (sense : Nat) (s : State), s.powered = true →
    let p := s.chassis.profile
    let c := s.wheels.get w
    let m := clampInt (-30000) 30000 ((c.window.drop 1 ++ [count]).sum * 50)
    let e := c.target - m
    let d := clampInt (-1000) 1000 (c.d + Int.tdiv (p.get .kp * (e - c.ePrev) + p.get .ki * e) 256)
    let capped := clampInt (-(p.get .stallCap)) (p.get .stallCap) d
    c.state = .run → (min sense 45000 : Nat) ≤ p.get .faultTrip →
    p.get .stallDuty ≤ mag d → mag m ≤ p.get .stallSpeed → p.nat .stallTime ≤ c.stallTimer + 1 →
    ∃ positive k, (c.target ≠ 0 → positive = decide (0 < c.target) ∧ k = s.draws) ∧
      exec (.stallTimeReached w count sense) s = .next (arbitrate (offer (.wheel w .stallOn d) { s with
        draws := k
        wheels := s.wheels.set w { c with
          window := c.window.drop 1 ++ [count]
          m := m
          current := min sense 45000
          state := .stall
          d := capped
          ePrev := e
          stallTimer := 0
          rest := 0
          stallPositive := positive
          history := (match c.history with
            | .armed x => if 2000 ≤ x + 1 then .none else .armed (x + 1)
            | .none => .none
            | .latched => .latched)
          bridge := .driven capped } }))

/-- The hold of a wheel whose target is 0 (R56 to R58): a HOLD whose creep count passes the hold creep outside CUTOFF becomes
HOLD_ACTIVE and regulates to 0 within the hold duty; any other HOLD stays, braked, and counts; a HOLD_ACTIVE goes on
regulating, its settle timer advancing while the wheel is still; after its 200 ms, and at once in CUTOFF, it goes back to
HOLD, braked, with its memory cleared. That the creep count adds each period's magnitude is the model's choice between two
sentences of R56 (log entry 23). So is the settle timer of 0 where it ends HOLD_ACTIVE (log entry 49). -/
def Obligations.HoldCreepsAndSettles : Prop :=
  ∀ (w : Wheel) (count : Int) (sense : Nat) (s : State), s.powered = true →
    let p := s.chassis.profile
    let c := s.wheels.get w
    let m := clampInt (-30000) 30000 ((c.window.drop 1 ++ [count]).sum * 50)
    let d := clampInt (-(p.get .holdDuty)) (p.get .holdDuty) (Int.tdiv (p.get .kp * (-m) + p.get .ki * (-m)) 256)
    let aged := (match c.history with
      | .armed x => if 2000 ≤ x + 1 then FaultHistory.none else .armed (x + 1)
      | .none => .none
      | .latched => .latched)
    let measured : Channel := { c with
      window := c.window.drop 1 ++ [count], m := m, current := min sense 45000, history := aged }
    (c.state = .hold → c.target = 0 → p.nat .holdCreep ≠ 0 → s.supply.stage ≠ .cutoff →
      p.nat .holdCreep < c.creep + count.natAbs →
      exec (.holdCreepExceeded w count sense) s = .next (arbitrate { s with wheels := s.wheels.set w { measured with
        creep := c.creep + count.natAbs, state := .holdActive, d := d, ePrev := -m, settle := 0,
        bridge := .driven d } })) ∧
    (c.state = .hold → c.target = 0 →
      (p.nat .holdCreep = 0 ∨ s.supply.stage = .cutoff ∨ c.creep + count.natAbs ≤ p.nat .holdCreep) →
      exec (.regulatorPeriod w count sense) s = .next (arbitrate { s with wheels := s.wheels.set w { measured with
        creep := c.creep + count.natAbs, bridge := .brake } })) ∧
    (c.state = .holdActive → c.target = 0 → (min sense 45000 : Nat) ≤ p.get .faultTrip → s.supply.stage ≠ .cutoff →
      ¬(m = 0 ∧ 200 ≤ c.settle + 1) →
      let d' := clampInt (-(p.get .holdDuty)) (p.get .holdDuty)
        (c.d + Int.tdiv (p.get .kp * (-m - c.ePrev) + p.get .ki * (-m)) 256)
      exec (.regulatorPeriod w count sense) s = .next (arbitrate { s with wheels := s.wheels.set w { measured with
        settle := if m = 0 then c.settle + 1 else 0, d := d', ePrev := -m, bridge := .driven d' } })) ∧
    (c.state = .holdActive → c.target = 0 → (min sense 45000 : Nat) ≤ p.get .faultTrip → s.supply.stage = .cutoff →
      exec (.regulatorPeriod w count sense) s = .next (arbitrate { s with wheels := s.wheels.set w { measured with
        creep := 0, state := .hold, d := 0, ePrev := 0, settle := 0, stallTimer := 0, rest := 0,
        bridge := .brake } })) ∧
    (c.state = .holdActive → c.target = 0 → (min sense 45000 : Nat) ≤ p.get .faultTrip → m = 0 →
      200 ≤ c.settle + 1 →
      exec (.holdSettleEnd w count sense) s = .next (arbitrate { s with wheels := s.wheels.set w { measured with
        creep := 0, state := .hold, d := 0, ePrev := 0, settle := 0, stallTimer := 0, rest := 0,
        bridge := .brake } }))

/-- The rests (R60, R63): at the end of its rest a STALL returns to RUN with STALL_OFF, and a FAULT to HOLD at target 0 or
to RUN from duty 0 otherwise; a wheel that returns to RUN is regulated in the same period.

Before that end (R53, R60, R61, R63, R65): a STALL whose target keeps the stall sign is regulated within the stall cap; one
whose target is 0 or has the other sign returns to RUN with STALL_OFF and its cause, under RUN's limit; a FAULT rests with
its bridge open; an OFF only measures, its bridge open.

What the rest timer reads after STALL and FAULT is the model's choice (log entry 49).

The fault window (R64): at a period without a trip, a history armed 2000 ms or more ago becomes NONE, and the row is
that regulator period. -/
def Obligations.RestsEndInRunOrHold : Prop :=
  (∀ (w : Wheel) (count : Int) (sense : Nat) (s : State), s.powered = true →
     let p := s.chassis.profile
     let c := s.wheels.get w
     let m := clampInt (-30000) 30000 ((c.window.drop 1 ++ [count]).sum * 50)
     let e := c.target - m
     let aged := (match c.history with
       | .armed x => if 2000 ≤ x + 1 then FaultHistory.none else .armed (x + 1)
       | .none => .none
       | .latched => .latched)
     let measured : Channel := { c with
       window := c.window.drop 1 ++ [count], m := m, current := min sense 45000, history := aged }
     let running (d : Int) : Channel := { measured with
       state := .run, d := d, ePrev := e, settle := 0, rest := 0, bridge := .driven d,
       stallTimer := if decide (p.get .stallDuty ≤ mag d) && decide (mag m ≤ p.get .stallSpeed) then 1 else 0 }
     1 < p.nat .stallTime →
     (c.state = .stall → (min sense 45000 : Nat) ≤ p.get .faultTrip → p.nat .stallRest ≤ c.rest + 1 →
       exec (.stallRestEnd w count sense) s = .next (arbitrate (offer (.wheel w .stallOff 0) { s with
         wheels := s.wheels.set w (running
           (clampInt (-1000) 1000 (c.d + Int.tdiv (p.get .kp * (e - c.ePrev) + p.get .ki * e) 256))) }))) ∧
     (c.state = .fault → 200 ≤ c.rest + 1 →
       exec (.faultRestEnd w count sense) s = .next (arbitrate { s with
         wheels := s.wheels.set w (if c.target = 0 then { measured with
           state := .hold, d := 0, ePrev := 0, settle := 0, stallTimer := 0, rest := 0, creep := 0,
           bridge := .brake }
           else running (clampInt (-1000) 1000 (Int.tdiv (p.get .kp * e + p.get .ki * e) 256))) })) ∧
     (c.state = .stall → (min sense 45000 : Nat) ≤ p.get .faultTrip → c.rest + 1 < p.nat .stallRest →
       (c.target = 0 ∨ decide (0 < c.target) ≠ c.stallPositive) →
       exec (.regulatorPeriod w count sense) s = .next (arbitrate
         (offer (.wheel w .stallOff (if c.target = 0 then 1 else 2)) { s with
           wheels := s.wheels.set w (running
             (clampInt (-1000) 1000 (c.d + Int.tdiv (p.get .kp * (e - c.ePrev) + p.get .ki * e) 256))) })))) ∧
  (∀ (w : Wheel) (count : Int) (sense : Nat) (s : State), s.powered = true →
     let p := s.chassis.profile
     let c := s.wheels.get w
     let m := clampInt (-30000) 30000 ((c.window.drop 1 ++ [count]).sum * 50)
     let e := c.target - m
     let d := clampInt (-(p.get .stallCap)) (p.get .stallCap)
       (c.d + Int.tdiv (p.get .kp * (e - c.ePrev) + p.get .ki * e) 256)
     let measured : Channel := { c with
       window := c.window.drop 1 ++ [count]
       m := m
       current := min sense 45000
       history := (match c.history with
         | .armed x => if 2000 ≤ x + 1 then FaultHistory.none else .armed (x + 1)
         | .none => .none
         | .latched => .latched) }
     let put (k : Channel) : Host.Outcome State Fault Refusal :=
       .next (arbitrate { s with wheels := s.wheels.set w k })
     (c.state = .stall → (min sense 45000 : Nat) ≤ p.get .faultTrip → c.rest + 1 < p.nat .stallRest →
       c.target ≠ 0 → decide (0 < c.target) = c.stallPositive →
       exec (.regulatorPeriod w count sense) s =
         put { measured with d := d, ePrev := e, rest := c.rest + 1, bridge := .driven d }) ∧
     (c.state = .fault → c.rest + 1 < 200 →
       exec (.regulatorPeriod w count sense) s = put { measured with rest := c.rest + 1, bridge := .opened }) ∧
     (c.state = .off → exec (.regulatorPeriod w count sense) s = put { measured with bridge := .opened })) ∧
  (∀ (w : Wheel) (count : Int) (sense x : Nat) (s : State), s.powered = true →
     (s.wheels.get w).history = .armed x → 2000 ≤ x + 1 →
     ((s.wheels.get w).state.driven = false ∨ (min sense 45000 : Nat) ≤ s.chassis.profile.get .faultTrip) →
     ∃ n, exec (.faultWindowClose w count sense) s = .next n ∧
       exec (.regulatorPeriod w count sense) s = .next n ∧ (n.wheels.get w).history = .none ∧
       (∀ v, v ≠ w → n.wheels.get v = s.wheels.get v) ∧ n.drive = s.drive ∧ n.winch = s.winch ∧ n.disp = s.disp)

/-! ## The winch's counts and periods -/

/-- A drum count (R80, R84, R91): the payout count moves by one within its range; in RUN_OUT a referenced winch at L_max
stops with its note and its LIMIT notice, a MOVE that reaches its target ends with GOOD, and every other state only
counts. For the MOVE the profile keeps its ranges (R175), so that L_max is not negative. -/
def Obligations.DrumCountMovesThePayout : Prop :=
  ∀ (dir : LineDir) (s : State), s.powered = true →
    let k := if dir = .outward then min (s.winch.count + 1) 2147483647 else max (s.winch.count - 1) (-2147483648)
    let mm := Int.tdiv (k * 100) (s.chassis.profile.get .cp100)
    let counted : Winch := { s.winch with count := k }
    let stopped : Winch := { counted with
      state := .idle, runSpeed := 0, moveTarget := none, moveDir := none, refTimer := 0, loadTimer := 0,
      bridge := .brake }
    (s.winch.state ≠ .move → s.winch.state ≠ .runOut →
      exec (.drumCount dir) s = .next (arbitrate { s with winch := counted })) ∧
    (s.winch.state = .runOut → exec (.drumCount dir) s = .next (arbitrate
      (if s.winch.referenced = true ∧ s.chassis.profile.get .payoutLimit ≤ mm then
        offer (.winch .limit mm) { s with winch := { stopped with note := .payoutMax } }
      else { s with winch := counted }))) ∧
    (∀ (target : Nat) (d : LineDir), s.winch.state = .move → s.winch.moveTarget = some target →
      s.winch.moveDir = some d → profileFits s.chassis.profile = true →
      (d = .outward → target ≤ s.chassis.profile.nat .payoutLimit) →
      exec (.drumCount dir) s = .next (arbitrate
        (if d = .inward ∧ mm ≤ target ∨ d = .outward ∧ (target : Int) ≤ mm then
          endOp .winch .good { s with winch := stopped }
        else { s with winch := counted })))

/-- The winch period outside MOVE and REFERENCE (R81, R82, R83, R85, R86, R95): drum speed, current, load timer, the duty of
the effective speed under g_W, and the bridge of the state.

In MOVE (R85, R86, R90, R91, R95): short of its target the drum is driven in the move direction, inward under the slow
zone and the load timer, outward without them; at its target the MOVE ends with GOOD, IDLE and braked. Where in the
period that end is checked is the model's choice (log entry 14).

In REFERENCE before its end (R85, R86, R93 to R95): both timers run, and the drum is hauled at the reference speed. -/
def Obligations.WinchPeriodDrivesTheDrum : Prop :=
  ∀ (m : Nat) (s : State), s.powered = true →
    let p := s.chassis.profile
    let w := s.winch
    let mm := Int.tdiv (w.count * 100) (p.get .cp100)
    let timer := if p.nat .loadCurrent < min m 40000 then w.loadTimer + 10 else 0
    let slow := w.referenced = false ∨ mm < p.get .slowZone
    let inward : Int := ((if slow then min w.runSpeed (p.nat .slowSpeed) else w.runSpeed) * s.alloc.gW / 1024 : Nat)
    let outward : Int := -((w.runSpeed * s.alloc.gW / 1024 : Nat) : Int)
    let measured : Winch := { w with
      speed := clampInt (-60000) 60000 ((w.prevCount - w.count) * 100)
      prevCount := w.count
      current := min m 40000
      loadTimer := 0
      gUsed := s.alloc.gW }
    (w.state = .runIn → timer < 100 → exec (.winchPeriod m) s = .next (arbitrate { s with
      winch := { measured with loadTimer := timer, duty := inward, bridge := .driven inward } })) ∧
    (w.state = .runOut → exec (.winchPeriod m) s = .next (arbitrate { s with
      winch := { measured with duty := outward, bridge := .driven outward } })) ∧
    (w.state = .idle ∨ w.state = .loadHold → exec (.winchPeriod m) s = .next (arbitrate { s with
      winch := { measured with duty := 0, bridge := .brake } })) ∧
    (w.state = .free → exec (.winchPeriod m) s = .next (arbitrate { s with
      winch := { measured with duty := 0, bridge := .opened } })) ∧
    (∀ target : Nat, w.state = .move → w.moveDir = some .inward → w.moveTarget = some target → (target : Int) < mm →
      timer < 100 → exec (.winchPeriod m) s = .next (arbitrate { s with
        winch := { measured with loadTimer := timer, duty := inward, bridge := .driven inward } })) ∧
    (∀ target : Nat, w.state = .move → w.moveDir = some .outward → w.moveTarget = some target → mm < (target : Int) →
      exec (.winchPeriod m) s = .next (arbitrate { s with
        winch := { measured with duty := outward, bridge := .driven outward } })) ∧
    (∀ (target : Nat) (d : LineDir), w.state = .move → w.moveDir = some d → w.moveTarget = some target →
      (d = .inward ∧ mm ≤ (target : Int) ∨ d = .outward ∧ (target : Int) ≤ mm) →
      exec (.winchPeriod m) s = .next (arbitrate (endOp .winch .good { s with
        winch := { measured with
          state := .idle
          runSpeed := 0
          moveTarget := none
          moveDir := none
          refTimer := 0
          duty := 0
          bridge := .brake } }))) ∧
    (let hauled : Int := (p.nat .referenceSpeed * s.alloc.gW / 1024 : Nat);
      let detected := if p.nat .referenceCurrent < min m 40000 then w.refTimer + 10 else 0;
      w.state = .reference → detected < 50 → timer < 100 →
      (∀ op, s.disp.winchOp = some op → s.now - op.start < 20000) →
      exec (.winchPeriod m) s = .next (arbitrate { s with
        winch := { measured with refTimer := detected, loadTimer := timer, duty := hauled, bridge := .driven hauled } }))

/-- The ends of a REFERENCE (R93, R94): the fifth consecutive period above I_ref takes the reference point, with the payout
0, the flag set and DONE GOOD; otherwise 20000 ms or more since the slot's start end it with TIMEOUT, with flag and payout
as they were. Both leave the winch IDLE and braked. That the run speed becomes 0 there is the model's choice (log
entry 22). -/
def Obligations.ReferenceEndsByPointOrTimeout : Prop :=
  ∀ (m : Nat) (s : State), s.powered = true → s.winch.state = .reference →
    let p := s.chassis.profile
    let w := s.winch
    let cur := min m 40000
    let ended : Winch := { w with
      speed := clampInt (-60000) 60000 ((w.prevCount - w.count) * 100)
      prevCount := w.count
      current := cur
      state := .idle
      runSpeed := 0
      moveTarget := none
      moveDir := none
      refTimer := 0
      loadTimer := 0
      duty := 0
      bridge := .brake
      gUsed := s.alloc.gW }
    (p.nat .referenceCurrent < cur → 50 ≤ w.refTimer + 10 →
      exec (.referenceDetected m) s = .next (arbitrate (endOp .winch .good { s with
        winch := { ended with count := 0, prevCount := 0, referenced := true } }))) ∧
    (∀ op, s.disp.winchOp = some op → ¬(p.nat .referenceCurrent < cur ∧ 50 ≤ w.refTimer + 10) →
      20000 ≤ s.now - op.start →
      exec (.referenceTimeout m) s = .next (arbitrate (endOp .winch .timeout { s with winch := ended })))

/-- The entry to LOAD_HOLD (R95, R101): at the tenth consecutive period above I_load a RUN_IN, or a MOVE inward that has
not reached its target, is braked in LOAD_HOLD with its note and its LOAD notice, and the MOVE ends with LOAD_LIMIT after
the notice. -/
def Obligations.LoadHoldBrakesTheHaul : Prop :=
  ∀ (m : Nat) (s : State), s.powered = true →
    let p := s.chassis.profile
    let w := s.winch
    let cur := min m 40000
    let held : Winch := { w with
      speed := clampInt (-60000) 60000 ((w.prevCount - w.count) * 100)
      prevCount := w.count
      current := cur
      state := .loadHold
      runSpeed := 0
      moveTarget := none
      moveDir := none
      refTimer := 0
      loadTimer := 0
      note := .loadHold
      duty := 0
      bridge := .brake
      gUsed := s.alloc.gW }
    p.nat .loadCurrent < cur → 100 ≤ w.loadTimer + 10 →
    (w.state = .runIn → exec (.loadHoldEntry m) s =
      .next (arbitrate (offer (.winch .load cur) { s with winch := held }))) ∧
    (∀ target : Nat, w.state = .move → w.moveDir = some .inward → w.moveTarget = some target →
      (target : Int) < Int.tdiv (w.count * 100) (p.get .cp100) →
      exec (.loadHoldEntry m) s =
        .next (arbitrate (endOp .winch .loadLimit (offer (.winch .load cur) { s with winch := held }))))

/-! ## The supply period and the allocation -/

/-- The measurements of a supply period (R108 to R111) and its allocation (R122): cells within the cell count, I_pack,
V_min, V_comp, X, and the allocation made from the stage and the currents as the period leaves them: I_steer the greater
of the two servo samples (R73), I_D the sum over the driven wheels (R51), I_W that of a driven winch (R82).

That I_steer is the first sample between the first and the second motion period is the model's choice (log entry 38), and so
is that a wheel in FAULT adds nothing to I_D in CUTOFF too (log entry 45). -/
def Obligations.SupplyPeriodMeasuresAndAllocates : Prop :=
  ∀ (x : Taps) (shunt : Int) (s : State), s.powered = true →
    let p := s.chassis.profile
    let k := p.nat .cellCount
    let v1 := if 1 ≤ k then min x.tap1 5000 else 0
    let v2 := if 2 ≤ k then min (x.tap2 - x.tap1) 5000 else 0
    let v3 := if 3 ≤ k then min (x.tap3 - x.tap2) 5000 else 0
    let v4 := if 4 ≤ k then min (x.tap4 - x.tap3) 5000 else 0
    let i := if shunt < 0 then 0 else min shunt.toNat 60000
    let v := if 4 ≤ k then min (min (min v1 v2) v3) v4 else if 3 ≤ k then min (min v1 v2) v3 else min v1 v2
    let comp := v + i * p.nat .cellResistance / 1000
    ∃ n, exec (.supplyPeriod x shunt) s = .next n ∧
      n.supply.countUsed = k ∧ n.supply.cells = ⟨v1, v2, v3, v4⟩ ∧ n.supply.iPack = i ∧ n.supply.vMin = v ∧
      n.supply.vComp = comp ∧
      n.supply.x = (if comp < p.nat .thresholdCutoff then .cutoff
        else if comp < p.nat .thresholdLimit then .limit
        else if comp < p.nat .thresholdConserve then .conserve else .normal) ∧
      n.supply.initialPending = false ∧
      (let share (c : Channel) : Nat :=
          if c.state = .run ∨ c.state = .stall ∨ c.state = .holdActive then c.current else 0;
        let iD := share n.wheels.fl + share n.wheels.fr + share n.wheels.rl + share n.wheels.rr;
        let iW := if n.winch.state = .runIn ∨ n.winch.state = .runOut ∨ n.winch.state = .move ∨ n.winch.state = .reference
          then n.winch.current else 0;
        n.alloc = allocate p n.supply.stage n.winch.tow.isSome (max s.steer.sampleNew s.steer.sampleOld) iD iW
          s.lights.iLest s.alloc ∧ n.alloc.iD = iD ∧ n.alloc.iW = iW) ∧
      n.steer = s.steer ∧ n.lights = s.lights ∧ n.chassis = s.chassis ∧ clockKept s n ∧ portsKept s n

/-- The first supply period after power-on sets the stage to X without a dwell (R116), and posts STAGE_CHANGED exactly when
X is not NORMAL. In CUTOFF every later period keeps the stage whatever X is, with both counters 0 and the candidate absent
(R114), and moves neither drive nor winch.

A descent (R112, R117): in NORMAL, CONSERVE or LIMIT, a period whose X is more severe than the stage and whose counter
reaches the dwell down moves the stage to the mildest X of the run, clears the counters and posts STAGE_CHANGED to every
master; only an entry to CUTOFF touches drive, wheels and winch, and it stops them and ends the tow link.

A rise (R113, R117): in CONSERVE or LIMIT, with V_comp at least the stage's threshold + H and X not more severe, a counter
that reaches the dwell up moves the stage one step milder, clears the counters and posts STAGE_CHANGED; drive, wheels and
winch stay.

The whole period (R41, R98, R104, R112, R113, R116 to R118): in a period that does not change the stage the down counter
advances by 10 with the candidate the milder, or goes to 0 with none, and the up counter advances by 10 or goes to 0; a
change offers the STAGE notice with its cause, and an entry to CUTOFF ends a MOVE or REFERENCE with DONE CUTOFF and a tow
link with TOW_END and cause CUTOFF, and leaves the drive in HOLDING, with the brake timer started from DRIVING, or in
SAFE_HOLD; the allocation follows. The order in which a port queues notices of different units is open (R117, R169; O15). -/
def Obligations.StageMovesByItsRules : Prop :=
  (∀ (x : Taps) (shunt : Int) (s : State), s.powered = true →
     (s.supply.initialPending = true → ∃ n, exec (.supplyPeriod x shunt) s = .next n ∧
       n.supply.stage = n.supply.x ∧
       (n.supply.x = .normal → n.disp = s.disp) ∧
       (n.supply.x ≠ .normal → ∀ m, n.disp.attention.get m = postKind .stageChanged (s.disp.attention.get m))) ∧
     (s.supply.initialPending = false → s.supply.stage = .cutoff → ∃ n, exec (.supplyPeriod x shunt) s = .next n ∧
       n.supply.stage = .cutoff ∧ n.supply.down = 0 ∧ n.supply.up = 0 ∧ n.supply.candidate = none ∧
       n.disp = s.disp ∧ n.drive = s.drive ∧ n.wheels = s.wheels ∧ n.winch = s.winch ∧
       n.alloc.gD = 0 ∧ n.alloc.gW = 0)) ∧
  (∀ (x : Taps) (shunt : Int) (s : State), s.powered = true → s.supply.initialPending = false →
     s.supply.stage ≠ .cutoff →
     let p := s.chassis.profile
     let now := classify p (supplyMeasure p x shunt s.supply).vComp
     let mildest := if s.supply.down = 0 then now else match s.supply.candidate with
       | some c => if now.code < c.code then now else c
       | none => now
     s.supply.stage.code < now.code → p.nat .dwellDown ≤ s.supply.down + 10 →
     ∃ n, exec (.dwellDownReached x shunt) s = .next n ∧ exec (.supplyPeriod x shunt) s = .next n ∧
       n.supply.stage = mildest ∧
       n.supply.down = 0 ∧ n.supply.up = 0 ∧ n.supply.candidate = none ∧
       (∀ m, n.disp.attention.get m = postKind .stageChanged (s.disp.attention.get m)) ∧
       (mildest ≠ .cutoff → n.drive = s.drive ∧ n.wheels = s.wheels ∧ n.winch = s.winch) ∧
       (mildest = .cutoff → n.drive.t = 0 ∧ n.drive.b = 0 ∧ n.drive.bCmd = 0 ∧
         (∀ w, n.wheels.get w = Channel.holdRequest false (s.wheels.get w)) ∧ n.winch.tow = none ∧
         (n.winch.state = if s.winch.state = .loadHold ∨ s.winch.state = .free then s.winch.state else .idle) ∧
         n.alloc.gD = 0 ∧ n.alloc.gW = 0) ∧
       n.steer = s.steer ∧ n.lights = s.lights ∧ n.chassis = s.chassis ∧ n.disp.holders = s.disp.holders) ∧
  (∀ (x : Taps) (shunt : Int) (s : State), s.powered = true → s.supply.initialPending = false →
     (s.supply.stage = .conserve ∨ s.supply.stage = .limit) →
     let p := s.chassis.profile
     let comp := (supplyMeasure p x shunt s.supply).vComp
     let threshold := if s.supply.stage = .conserve then p.nat .thresholdConserve else p.nat .thresholdLimit
     threshold + p.nat .hysteresis ≤ comp → (classify p comp).code ≤ s.supply.stage.code →
     p.nat .dwellUp ≤ s.supply.up + 10 →
     ∃ n, exec (.dwellUpReached x shunt) s = .next n ∧ exec (.supplyPeriod x shunt) s = .next n ∧
       n.supply.stage = (if s.supply.stage = .conserve then .normal else .conserve) ∧
       n.supply.down = 0 ∧ n.supply.up = 0 ∧ n.supply.candidate = none ∧
       (∀ m, n.disp.attention.get m = postKind .stageChanged (s.disp.attention.get m)) ∧
       n.drive = s.drive ∧ n.wheels = s.wheels ∧ n.winch = s.winch ∧ n.steer = s.steer ∧ n.lights = s.lights ∧
       n.chassis = s.chassis) ∧
  (∀ (x : Taps) (shunt : Int) (s : State), s.powered = true →
     let p := s.chassis.profile
     let comp := (supplyMeasure p x shunt s.supply).vComp
     let now := classify p comp
     let old := s.supply
     let read : State :=
       { s with supply := { supplyMeasure p x shunt s.supply with x := now, initialPending := false } }
     let counted (down up : Nat) (c : Option Stage) : State :=
       { read with supply := { read.supply with down := down, up := up, candidate := c } }
     let stopped : Winch := { s.winch with
       state := .idle, runSpeed := 0, moveTarget := none, moveDir := none, refTimer := 0, loadTimer := 0,
       bridge := .brake }
     let cut (q : State) : State :=
       let q1 := if s.winch.state = .runIn ∨ s.winch.state = .runOut then { q with winch := stopped }
         else if s.winch.state = .move ∨ s.winch.state = .reference then endOp .winch .cutoff { q with winch := stopped }
         else q
       let q2 := if s.winch.tow.isSome = true then endTow .cutoff q1 else q1
       handHold false { q2 with drive := { s.drive with
         t := 0
         b := 0
         bCmd := 0
         state := if s.drive.state = .safeHold ∧ s.winch.tow = none then .safeHold else .holding
         brakeTimer := if s.drive.state = .driving then some 0 else s.drive.brakeTimer } }
     let moved (new previous : Stage) (cause : StageCause) : State :=
       let q := { offer (.stage new previous comp cause) read with
         supply := { read.supply with stage := new, down := 0, up := 0, candidate := none }
         disp := { s.disp with attention := s.disp.attention.map fun _ k => postKind .stageChanged k } }
       if new = .cutoff then cut q else q
     let worse := decide (old.stage.code < now.code)
     let mildest := if old.down = 0 then now else match old.candidate with
       | some c => if now.code < c.code then now else c
       | none => now
     let rises := decide (old.stage = .conserve ∧ p.nat .thresholdConserve + p.nat .hysteresis ≤ comp ∨
       old.stage = .limit ∧ p.nat .thresholdLimit + p.nat .hysteresis ≤ comp)
     let decided : State :=
       if old.initialPending = true then
         (if now = .normal then { read with supply := { read.supply with stage := .normal } }
           else moved now .normal .initial)
       else if old.stage = .cutoff then counted 0 0 none
       else if worse = true ∧ p.nat .dwellDown ≤ old.down + 10 then moved mildest old.stage .down
       else if rises = true ∧ p.nat .dwellUp ≤ old.up + 10 then
         moved (if old.stage = .conserve then .normal else .conserve) old.stage .up
       else counted (if worse = true then old.down + 10 else 0) (if rises = true then old.up + 10 else 0)
         (if worse = true then some mildest else none)
     let share (c : Channel) : Nat :=
       if c.state = .run ∨ c.state = .stall ∨ c.state = .holdActive then c.current else 0
     let d := decided.wheels
     let w := decided.winch
     exec (.supplyPeriod x shunt) s = .next (arbitrate { decided with
       alloc := allocate p decided.supply.stage w.tow.isSome (max s.steer.sampleNew s.steer.sampleOld)
         (share d.fl + share d.fr + share d.rl + share d.rr)
         (if w.state = .runIn ∨ w.state = .runOut ∨ w.state = .move ∨ w.state = .reference then w.current else 0)
         s.lights.iLest s.alloc }))

/-- The budget and the shares (R123 to R127): I_avail by stage, A, the serving order, the caps and the used values.

The feedback governors (R128): outside CUTOFF a draw above the cap cuts the factor in proportion, and lowers it where it
was above 0; a draw within the cap raises it by the rise up to 1024. Each factor is computed from its own consumer. -/
def Obligations.AllocationSharesTheBudget : Prop :=
  (∀ (p : Profile) (stage : Stage) (tow : Bool) (iSteer iD iW iLest : Nat) (x : Alloc),
     let y := allocate p stage tow iSteer iD iW iLest x
     let floor := p.nat .lightsFloor
     y.iAvail = (match stage with
       | .normal => p.nat .packLimit
       | .conserve => p.nat .packLimit * 3 / 4
       | .limit => p.nat .packLimit / 2
       | .cutoff => 0) ∧
     y.a = y.iAvail - iSteer - floor ∧ y.order = (if tow then .winchFirst else .driveFirst) ∧
     (stage = .cutoff → y.capD = 0 ∧ y.capW = 0 ∧ y.capL = floor ∧ y.usedD = 0 ∧ y.usedW = 0) ∧
     (stage ≠ .cutoff →
       y.usedD = min iD y.capD ∧ y.usedW = min iW y.capW ∧
       (tow = false → y.capD = min y.a (p.nat .driveLimit) ∧ y.capW = min (y.a - y.usedD) (p.nat .winchLimit)) ∧
       (tow = true → y.capW = min y.a (p.nat .winchLimit) ∧ y.capD = min (y.a - y.usedW) (p.nat .driveLimit)) ∧
       y.capL = min (floor + y.a - y.usedD - y.usedW) (p.nat .lightsLimit) ∧ y.usedD + y.usedW ≤ y.a) ∧
     y.usedD + y.usedW + y.capL ≤ max floor (y.iAvail - iSteer)) ∧
  (∀ (p : Profile) (stage : Stage) (tow : Bool) (iSteer iD iW iLest : Nat) (x : Alloc), stage ≠ .cutoff →
     let y := allocate p stage tow iSteer iD iW iLest x
     let rule (g i cap new : Nat) : Prop :=
       (cap < i → cap = 0 → new = 0) ∧
       (cap < i → 0 < cap → new = g * cap / i) ∧
       (cap < i → 0 < g → new < g) ∧
       (cap < i → g = 0 → new = 0) ∧
       (i ≤ cap → new = min (g + p.nat .governorRise) 1024)
     rule x.gD iD y.capD y.gD ∧ rule x.gW iW y.capW y.gW)

/-- The lights governor (R130): in every stage, g_L is 1024 when I_Lest is within cap_L and the floor of 1024·cap_L/I_Lest
otherwise, whatever the previous factor; in CUTOFF cap_L is F_L. -/
def Obligations.LightsGovernorFollowsTheEstimate : Prop :=
  ∀ (p : Profile) (stage : Stage) (tow : Bool) (iSteer iD iW iLest : Nat) (x z : Alloc),
    let y := allocate p stage tow iSteer iD iW iLest x
    (iLest ≤ y.capL → y.gL = 1024) ∧ (y.capL < iLest → y.gL = 1024 * y.capL / iLest) ∧
      (iLest = 0 → y.gL = 1024) ∧ (y.capL = 0 → 0 < iLest → y.gL = 0) ∧
      (stage = .cutoff → y.capL = p.nat .lightsFloor) ∧
      (allocate p stage tow iSteer iD iW iLest z).gL = y.gL

/-! ## The light frame boundary -/

/-- Steps 4 to 6 of a boundary (R142, R146, R149, R150, R153 to R155): each composed value is ALERT's, else SIGNAL's, else
BASE's; SIGNAL's is that of the highest-ranked active source that shows no PASS, mirrored where it is marked, or the
overlay's; BASE's is the live source's, or the blend of a fade; the estimate is the sum over the channels divided once by
254; the outputs are the composed values dimmed by the latest g_L; the units the engine reads stay.

The selected alert (R152): the highest-ranked active alert whose pattern field is not none.

The activity of SIGNAL (R149, R150, R156): in AUTO each source is active by its input, starts its pattern at step 0 when it
becomes active or a write has changed its field, and advances otherwise; the mirror is the sign of s; in MANUAL no source changes
and the overlay starts where it is marked; the activities are kept for REPORT LIGHTS (R158).

The playback of ALERT (R152, R156): a selected alert starts its pattern at step 0 when it was not the one selected or a write
has changed its field, and advances otherwise.

That in MANUAL the sources keep their activities, which are then shown, and the indicator its mirrored flag is the model's
choice (log entry 25). -/
def Obligations.BoundaryComposesAndSelects : Prop :=
  (∀ s : State, s.powered = true → ∃ n, exec .lightFrameBoundary s = .next n ∧
     (let x := n.lights;
       let shows (k : Nat) (y : Playback) (c : Nat) : Nat :=
         if (x.defn k).defined then frameValue (x.frame ((x.defn k).first + y.step)) c else 255;
       let mirror (c : Nat) : Nat := if c % 2 = 0 then c + 1 else c - 1;
       let alert (c : Nat) : Nat := if x.alert.selected = none then 255 else shows x.alert.pattern x.alert.play c;
       let source (a : AutoSource) (c : Nat) : Nat := if a.active then shows a.pattern a.play c else 255;
       let signal (c : Nat) : Nat := match x.mode with
         | .auto =>
           let i := source x.indicator (if x.mirrored then mirror c else c)
           if i ≠ 255 then i else if source x.brake c ≠ 255 then source x.brake c else source x.reverse c
         | .manual => match x.overlay.pattern with
           | some k => shows k x.overlay.play (if x.overlay.mirrored then mirror c else c)
           | none => 255;
       let intensity (v : Live) (c : Nat) : Nat := match v.source with
         | .pattern k => if shows k v.play c = 255 then 0 else shows k v.play c
         | .level y => y;
       let base (c : Nat) : Nat := match x.base.fade with
         | none => intensity x.base.live c
         | some f =>
           let alpha := (32 * f.k + f.n / 2) / f.n
           let new := if f.kind = .fade then intensity f.incoming c else f.fillLevel
           (intensity f.outgoing c * (32 - alpha) + new * alpha + 16) / 32;
       ∀ c : Fin 24, n.lights.composed[c] =
         if alert c ≠ 255 then alert c else if signal c ≠ 255 then signal c else base c) ∧
     n.lights.iLest = ((List.finRange 24).map fun c =>
       n.lights.composed[c] * s.chassis.profile.nat (.channelCurrent c)).sum / 254 ∧
     (∀ c : Fin 24, n.lights.outputs[c] = (n.lights.composed[c] * s.alloc.gL + 512) / 1024) ∧
     n.lights.gUsed = s.alloc.gL ∧ n.lights.store = s.lights.store ∧ n.lights.table = s.lights.table ∧
     n.drive = s.drive ∧ n.wheels = s.wheels ∧ n.steer = s.steer ∧ n.winch = s.winch ∧ n.supply = s.supply ∧
     n.alloc = s.alloc ∧ n.chassis = s.chassis ∧ clockKept s n ∧ portsKept s n) ∧
  (∀ s : State, s.powered = true → ∃ n, exec .lightFrameBoundary s = .next n ∧
     let p := s.chassis.profile
     let shown (f : Field) : Prop := p.nat f < 16
     let failsafe := ∃ l, (s.ports.get l).link = .silent ∧ (s.ports.get l).failsafeFlag = true
     (failsafe → shown .failsafePattern → n.lights.alert.selected = some .failsafe) ∧
     (¬(failsafe ∧ shown .failsafePattern) →
       (s.supply.stage = .cutoff → shown .cutoffPattern → n.lights.alert.selected = some .cutoff) ∧
       (s.supply.stage = .limit → shown .limitPattern → n.lights.alert.selected = some .limit) ∧
       (¬(s.supply.stage = .cutoff ∧ shown .cutoffPattern) → ¬(s.supply.stage = .limit ∧ shown .limitPattern) →
         (s.winch.state = .loadHold → shown .winchLoadPattern → n.lights.alert.selected = some .winchLoad) ∧
         (¬(s.winch.state = .loadHold ∧ shown .winchLoadPattern) →
           (s.supply.stage = .conserve → shown .conservePattern → n.lights.alert.selected = some .conserve) ∧
           (¬(s.supply.stage = .conserve ∧ shown .conservePattern) → n.lights.alert.selected = none))))) ∧
  (∀ s : State, s.powered = true → ∃ n, exec .lightFrameBoundary s = .next n ∧
     let p := s.chassis.profile
     let begun (k : Nat) : Playback := ⟨0, (s.lights.defn k).stepTime⟩
     let after (a : AutoSource) (active : Bool) (k : Nat) : AutoSource :=
       if active then
         (if a.active = true ∧ a.pattern = k ∧ a.rewritten = false then
             { a with play := (a.play.advance (s.lights.defn k)).1 }
           else ⟨true, k, begun k, false⟩)
       else { a with active := false, rewritten := false }
     (s.lights.mode = .auto →
       n.lights.indicator = after s.lights.indicator (decide (p.get .indicatorThreshold ≤ mag s.steer.s))
         (p.nat .indicatorPattern) ∧
       n.lights.brake = after s.lights.brake s.drive.braking (p.nat .brakePattern) ∧
       n.lights.reverse = after s.lights.reverse s.drive.reverse (p.nat .reversePattern) ∧
       n.lights.mirrored = decide (s.steer.s < 0) ∧ n.lights.overlay = s.lights.overlay) ∧
     (s.lights.mode = .manual →
       n.lights.indicator = s.lights.indicator ∧ n.lights.brake = s.lights.brake ∧
       n.lights.reverse = s.lights.reverse ∧ n.lights.mirrored = s.lights.mirrored ∧
       n.lights.overlay = { s.lights.overlay with
         restart := false
         play := (match s.lights.overlay.pattern with
           | none => s.lights.overlay.play
           | some k => if s.lights.overlay.restart = true then begun k
             else (s.lights.overlay.play.advance (s.lights.defn k)).1) }) ∧
     n.lights.shown = ⟨n.lights.indicator.active, n.lights.brake.active, n.lights.reverse.active⟩ ∧
     n.lights.mode = s.lights.mode ∧
     n.lights.alert = match n.lights.alert.selected with
       | none => { s.lights.alert with selected := none, rewritten := false }
       | some a =>
         let k := p.nat (match a with
           | .failsafe => .failsafePattern
           | .cutoff => .cutoffPattern
           | .limit => .limitPattern
           | .winchLoad => .winchLoadPattern
           | .conserve => .conservePattern)
         if s.lights.alert.selected = some a ∧ s.lights.alert.pattern = k ∧ s.lights.alert.rewritten = false then
           { s.lights.alert with play := (s.lights.alert.play.advance (s.lights.defn k)).1 }
         else ⟨some a, k, begun k, false⟩)

/-- A countdown that reaches 0 (R140): the live pattern moves to its next step with the countdown reloaded; at its end LOOP
goes to step 0 and ONCE holds the last frame with the countdown stopped.

The end of a fade (R146, R147): when the position reaches n the fade is gone, its incoming source is live, with its
playback for a FADE and started at its start step for a FILL, and the LIGHTS slot ends with GOOD.

The staged source at a boundary without a fade (R138, R145, R146): one whose pattern is open stays staged and the live
source goes on; otherwise a CUT makes it live at its start step, a FADE or FILL of more than one boundary becomes a
fade at position 1, and one of a single boundary is created and ended there, with GOOD for its slot.

A boundary with nothing staged (R140, R146, R147): without a fade the live source advances; a fade in progress moves on by
one position, its outgoing source and the incoming one of a FADE playing on.

A fade marked ended (R145): the boundary is that of the BASE record with its incoming source live, and started for a FILL,
and the fade gone, a staged source being met by it as above.

What the live source is during a fade, the old one with its playback as the switch found it, is the model's choice (log
entry 42).

What these advances and starts are (R140): a source starts at its start step, or at the last frame where that lies beyond
the record's frames, with the record's step time; at an advance a step beyond the record's frames is first treated as its
end and a countdown above the step time lowered to it, and the countdown then falls by 1 and moves the step at 0; a
playback of an undefined pattern goes to step 0. That a stopped countdown stays stopped, and what LOOP and an undefined
pattern do with theirs, is the model's choice (log entry 25), and so are the 0 that a stopped countdown reads (log entry 47)
and where the start-up source starts (log entry 16). -/
def Obligations.BoundaryMovesTheBaseRecord : Prop :=
  (∀ (k step : Nat) (s : State), s.powered = true → s.lights.base.staged = none → s.lights.base.fade = none →
     s.lights.base.live = ⟨.pattern k, ⟨step, 1⟩, false⟩ →
     let d := s.lights.defn k
     d.defined = true → step < d.count → 1 ≤ d.stepTime →
     ∃ n, exec .playbackCountdown s = .next n ∧ exec .lightFrameBoundary s = .next n ∧
       n.lights.base = ⟨⟨.pattern k,
         if step + 1 < d.count then ⟨step + 1, d.stepTime⟩
         else if d.action = .loop then ⟨0, d.stepTime⟩ else ⟨d.count - 1, 0⟩, false⟩, none, none⟩ ∧
       n.lights.store = s.lights.store ∧ n.lights.table = s.lights.table ∧ n.disp = s.disp ∧ n.winch = s.winch ∧
       n.drive = s.drive) ∧
  (∀ (f : Fade) (s : State), s.powered = true → s.lights.base.staged = none → s.lights.base.fade = some f →
     f.ended = false → f.n ≤ f.k + 1 →
     ∃ x : Lights, exec .fadeEnd s = .next (arbitrate (endOp .lights .good { s with lights := x })) ∧
       exec .lightFrameBoundary s = exec .fadeEnd s ∧ x.base.fade = none ∧ x.base.staged = none ∧
       (f.kind = .fade → x.base.live = (f.incoming.advance s.lights).1) ∧
       (f.kind = .fill → x.base.live = Live.start s.lights f.incoming.source f.startStep false)) ∧
  (∀ (g : Staged) (s : State), s.powered = true → s.lights.base.staged = some g → s.lights.base.fade = none →
     let isOpen := (match g.source with
       | .pattern k => (s.lights.record k).openBy.isSome
       | .level _ => false)
     let single := (match g.transition with
       | .cut => false
       | .fade k => decide (k ≤ 1)
       | .fill k _ => decide (k ≤ 1))
     let old := (s.lights.base.live.advance s.lights).1
     let new := Live.start s.lights g.source g.startStep false
     ∃ x : Lights, exec .lightFrameBoundary s = .next (arbitrate
         (if isOpen = false ∧ single = true then endOp .lights .good { s with lights := x } else { s with lights := x })) ∧
       (isOpen = true → x.base = ⟨old, some g, none⟩) ∧
       (isOpen = false → g.transition = .cut ∨ single = true → x.base = ⟨new, none, none⟩) ∧
       (∀ k, isOpen = false → g.transition = .fade k → 1 < k → x.base =
         ⟨s.lights.base.live, none, some ⟨.fade, old, new, g.startStep, k, 0, 1, false⟩⟩) ∧
       (∀ k v, isOpen = false → g.transition = .fill k v → 1 < k → x.base =
         ⟨s.lights.base.live, none,
           some ⟨.fill, old, ⟨g.source, ⟨0, 0⟩, false⟩, g.startStep, k, v, 1, false⟩⟩)) ∧
  (∀ s : State, s.powered = true → s.lights.base.staged = none →
     (s.lights.base.fade = none → ∃ x : Lights, exec .lightFrameBoundary s = .next (arbitrate { s with lights := x }) ∧
       x.base = ⟨(s.lights.base.live.advance s.lights).1, none, none⟩) ∧
     ∀ f, s.lights.base.fade = some f → f.ended = false → f.k + 1 < f.n →
       ∃ x : Lights, exec .lightFrameBoundary s = .next (arbitrate { s with lights := x }) ∧
         x.base = ⟨s.lights.base.live, none, some { f with
           k := f.k + 1
           outgoing := (f.outgoing.advance s.lights).1
           incoming := if f.kind = .fade then (f.incoming.advance s.lights).1 else f.incoming }⟩) ∧
  (∀ (f : Fade) (s : State), s.powered = true → s.lights.base.fade = some f → f.ended = true →
     exec .lightFrameBoundary s = exec .lightFrameBoundary { s with lights := { s.lights with base :=
       ⟨if f.kind = .fade then f.incoming else Live.start s.lights f.incoming.source f.startStep true,
        s.lights.base.staged, none⟩ } }) ∧
  (∀ (x : Lights) (source : Source) (step : Nat) (fresh : Bool), Live.start x source step fresh =
     match source with
     | .pattern k => ⟨.pattern k, ⟨min step ((x.defn k).count - 1), (x.defn k).stepTime⟩, fresh⟩
     | .level v => ⟨.level v, ⟨0, 0⟩, fresh⟩) ∧
  (∀ (x : Lights) (v : Live), (v.advance x).1 =
     if v.fresh = true then Live.start x v.source v.play.step false
     else match v.source with
       | .pattern k => { v with play := (v.play.advance (x.defn k)).1 }
       | .level _ => v) ∧
  ∀ (d : PatternDef) (y : Playback),
    let beyond := decide (d.count ≤ y.step)
    let last : Nat := if d.action = .loop then 0 else d.count - 1
    let step := if beyond = true then last else y.step
    let left := if beyond = true ∧ d.action ≠ .loop then 0 else min y.countdown d.stepTime
    (d.defined = false → (y.advance d).1 = ⟨0, y.countdown⟩) ∧
    (d.defined = true → left = 0 → (y.advance d).1 = ⟨step, 0⟩) ∧
    (d.defined = true → 1 < left → (y.advance d).1 = ⟨step, left - 1⟩) ∧
    (d.defined = true → left = 1 → step + 1 < d.count → (y.advance d).1 = ⟨step + 1, d.stepTime⟩) ∧
    (d.defined = true → left = 1 → d.count ≤ step + 1 →
      (y.advance d).1 = if d.action = .loop then ⟨0, d.stepTime⟩ else ⟨d.count - 1, 0⟩)

/-! ## Conditions that every step keeps -/

/-- The state right after power-on keeps every condition of this file's invariants. -/
def Obligations.ResetKeepsEveryCondition : Prop :=
  linksFit State.reset ∧ towFits State.reset ∧ factorsFit State.reset ∧ storeFits State.reset ∧
    commitFits State.reset ∧ winchFits State.reset ∧ lightsFit State.reset ∧ outputsFit State.reset ∧
    targetsFit State.reset

/-- Every step keeps the ports and the attention queues in order (R16, R161, R164, R167, R169): the slot is occupied exactly
while its status waits or is sent, a notice queue holds at most 8, no notice waits to join it, the assembly buffer is what
its state says, and an attention queue holds each kind at most once. -/
def Obligations.EveryStepKeepsTheLinksInOrder : Prop :=
  ∀ s t : State, linksFit s → step s = .next t → linksFit t

/-- Every step keeps the tow link's condition (section 5.11): while it exists the drive is in TOWING, its owner holds WINCH
on an ACTIVE link, no other master holds DRIVE and the stage is not CUTOFF; without it the drive is not in TOWING. -/
def Obligations.EveryStepKeepsTheTowLink : Prop :=
  ∀ s t : State, towFits s → step s = .next t → towFits t

/-- Every step keeps the factors in 0..1024, and g_D and g_W at 0 in CUTOFF (R129).

Every step keeps each composed value within 0..254 and each output at most its composed value, so that no output
carries PASS (R142, R153, R155).

Every step keeps the wheel targets in -4000..4000 with one target for each side (R36). -/
def Obligations.EveryStepKeepsTheRanges : Prop :=
  (∀ s t : State, factorsFit s → step s = .next t → factorsFit t) ∧
  (∀ s t : State, outputsFit s → step s = .next t → outputsFit t) ∧
  (∀ s t : State, targetsFit s → step s = .next t → targetsFit t)

/-- Every step keeps the working profile, a commit's snapshot and a good image within the field ranges and the order rules
(R175, R178). -/
def Obligations.EveryStepKeepsTheProfileInOrder : Prop :=
  ∀ s t : State, storeFits s → step s = .next t → storeFits t

/-- Every step keeps the CHASSIS slot, the image state and the snapshot together (R17, R180 to R182).

Every step keeps the WINCH slot with the winch state, a move's target within L_max, and a REFERENCE out of reach of
LOAD_HOLD (R83, R90, R93, R95).

Every step keeps the LIGHTS slot with the BASE record's transition (R17, R143 to R148). -/
def Obligations.EveryStepKeepsTheOperations : Prop :=
  (∀ s t : State, commitFits s → step s = .next t → commitFits t) ∧
  (∀ s t : State, storeFits s → winchFits s → step s = .next t → winchFits t) ∧
  (∀ s t : State, lightsFit s → step s = .next t → lightsFit t)

/-- The stage CUTOFF is latched (R114, R121): after the first classification, only SUPPLY CLEAR and power-on leave it; a
byte received does so only as the last byte of a good SUPPLY CLEAR frame: kind 1, code 61h. -/
def Obligations.CutoffIsLatched : Prop :=
  ∀ (i : Instr) (s t : State), s.supply.stage = .cutoff → s.supply.initialPending = false →
    exec i s = .next t → t.supply.stage ≠ .cutoff →
    i = .powerOn ∨ (∃ l c, instrFrame i = some (l, c) ∧ c.code = 0x61) ∨
      ∃ l b, (i = .frameReceived l b ∨ i = .byteReceived l b false) ∧
        let buffer := (s.ports.get l).buffer ++ [b]
        (s.ports.get l).assembly = .check ∧ (byteAt buffer 0).toNat + 3 ≤ buffer.length ∧ frameGood buffer = true ∧
          byteAt buffer 1 = 1 ∧ byteAt buffer 4 = 0x61
end

