-- ==== Sys2Proof/Laws/State.lean ====
section
/-! SUPPORT. The small lemmas of the state's tables and updates: one per field per update, true by definition, so that no later proof unfolds an update. -/

namespace Sys2Proof.Machine

/-! ## The tables -/

@[simp] theorem PerLink.get_set_same {α : Type} (v : PerLink α) (l : Link) (x : α) : (v.set l x).get l = x := by
  cases l <;> rfl

theorem PerLink.get_set_other {α : Type} (v : PerLink α) {l m : Link} (x : α) (h : m ≠ l) :
    (v.set l x).get m = v.get m := by
  cases l <;> cases m <;> first | rfl | exact absurd rfl h

theorem PerLink.get_set {α : Type} (v : PerLink α) (l m : Link) (x : α) :
    (v.set l x).get m = if m = l then x else v.get m := by
  cases l <;> cases m <;> rfl

@[simp] theorem PerLink.get_map {α : Type} (v : PerLink α) (f : Link → α → α) (l : Link) :
    (v.map f).get l = f l (v.get l) := by
  cases l <;> rfl

@[simp] theorem PerLink.set_set {α : Type} (v : PerLink α) (l : Link) (x y : α) :
    (v.set l x).set l y = v.set l y := by
  cases l <;> rfl

@[simp] theorem PerLink.set_get {α : Type} (v : PerLink α) (l : Link) : v.set l (v.get l) = v := by
  cases l <;> rfl

theorem PerLink.ext_get {α : Type} {v w : PerLink α} (h : ∀ l, v.get l = w.get l) : v = w := by
  obtain ⟨a, b, c⟩ := v
  obtain ⟨d, e, f⟩ := w
  have hp : a = d := h .p
  have hw : b = e := h .w
  have hs : c = f := h .s
  rw [hp, hw, hs]

@[simp] theorem PerWheel.get_set_same {α : Type} (v : PerWheel α) (i : Wheel) (x : α) : (v.set i x).get i = x := by
  cases i <;> rfl

theorem PerWheel.get_set_other {α : Type} (v : PerWheel α) {i j : Wheel} (x : α) (h : j ≠ i) :
    (v.set i x).get j = v.get j := by
  cases i <;> cases j <;> first | rfl | exact absurd rfl h

@[simp] theorem PerWheel.get_map {α β : Type} (v : PerWheel α) (f : α → β) (i : Wheel) :
    (v.map f).get i = f (v.get i) := by
  cases i <;> rfl

@[simp] theorem PerAxle.get_set_same {α : Type} (v : PerAxle α) (a : Axle) (x : α) : (v.set a x).get a = x := by
  cases a <;> rfl

theorem PerAxle.get_set_other {α : Type} (v : PerAxle α) {a b : Axle} (x : α) (h : b ≠ a) :
    (v.set a x).get b = v.get b := by
  cases a <;> cases b <;> first | rfl | exact absurd rfl h

theorem vecMap_toList {α β : Type} {n : Nat} (f : α → β) (v : Vector α n) : (vecMap f v).toList = v.toList.map f := by
  simp [vecMap, Vector.toList]

@[simp] theorem vecMap_get {α β : Type} {n : Nat} (f : α → β) (v : Vector α n) (i : Nat) (h : i < n) :
    (vecMap f v)[i] = f v[i] := by
  simp [vecMap]

@[simp] theorem chanVec_get {α : Type} (f : Nat → α) (i : Nat) (h : i < 24) : (chanVec f)[i] = f i := by
  simp [chanVec]

/-! ## The updates -/

@[simp] theorem setPort_pending (l : Link) (q : Port) (s : State) : (setPort l q s).pending = s.pending := rfl

@[simp] theorem setPort_powered (l : Link) (q : Port) (s : State) : (setPort l q s).powered = s.powered := rfl

@[simp] theorem setPort_now (l : Link) (q : Port) (s : State) : (setPort l q s).now = s.now := rfl

@[simp] theorem setPort_draws (l : Link) (q : Port) (s : State) : (setPort l q s).draws = s.draws := rfl

@[simp] theorem setPort_disp (l : Link) (q : Port) (s : State) : (setPort l q s).disp = s.disp := rfl

@[simp] theorem setPort_drive (l : Link) (q : Port) (s : State) : (setPort l q s).drive = s.drive := rfl

@[simp] theorem setPort_wheels (l : Link) (q : Port) (s : State) : (setPort l q s).wheels = s.wheels := rfl

@[simp] theorem setPort_steer (l : Link) (q : Port) (s : State) : (setPort l q s).steer = s.steer := rfl

@[simp] theorem setPort_winch (l : Link) (q : Port) (s : State) : (setPort l q s).winch = s.winch := rfl

@[simp] theorem setPort_supply (l : Link) (q : Port) (s : State) : (setPort l q s).supply = s.supply := rfl

@[simp] theorem setPort_alloc (l : Link) (q : Port) (s : State) : (setPort l q s).alloc = s.alloc := rfl

@[simp] theorem setPort_lights (l : Link) (q : Port) (s : State) : (setPort l q s).lights = s.lights := rfl

@[simp] theorem setPort_chassis (l : Link) (q : Port) (s : State) : (setPort l q s).chassis = s.chassis := rfl

@[simp] theorem setDisp_pending (x : DispatcherState) (s : State) : (setDisp x s).pending = s.pending := rfl

@[simp] theorem setDisp_powered (x : DispatcherState) (s : State) : (setDisp x s).powered = s.powered := rfl

@[simp] theorem setDisp_now (x : DispatcherState) (s : State) : (setDisp x s).now = s.now := rfl

@[simp] theorem setDisp_draws (x : DispatcherState) (s : State) : (setDisp x s).draws = s.draws := rfl

@[simp] theorem setDisp_ports (x : DispatcherState) (s : State) : (setDisp x s).ports = s.ports := rfl

@[simp] theorem setDisp_drive (x : DispatcherState) (s : State) : (setDisp x s).drive = s.drive := rfl

@[simp] theorem setDisp_wheels (x : DispatcherState) (s : State) : (setDisp x s).wheels = s.wheels := rfl

@[simp] theorem setDisp_steer (x : DispatcherState) (s : State) : (setDisp x s).steer = s.steer := rfl

@[simp] theorem setDisp_winch (x : DispatcherState) (s : State) : (setDisp x s).winch = s.winch := rfl

@[simp] theorem setDisp_supply (x : DispatcherState) (s : State) : (setDisp x s).supply = s.supply := rfl

@[simp] theorem setDisp_alloc (x : DispatcherState) (s : State) : (setDisp x s).alloc = s.alloc := rfl

@[simp] theorem setDisp_lights (x : DispatcherState) (s : State) : (setDisp x s).lights = s.lights := rfl

@[simp] theorem setDisp_chassis (x : DispatcherState) (s : State) : (setDisp x s).chassis = s.chassis := rfl

@[simp] theorem setDrive_pending (x : Drive) (s : State) : (setDrive x s).pending = s.pending := rfl

@[simp] theorem setDrive_powered (x : Drive) (s : State) : (setDrive x s).powered = s.powered := rfl

@[simp] theorem setDrive_now (x : Drive) (s : State) : (setDrive x s).now = s.now := rfl

@[simp] theorem setDrive_draws (x : Drive) (s : State) : (setDrive x s).draws = s.draws := rfl

@[simp] theorem setDrive_disp (x : Drive) (s : State) : (setDrive x s).disp = s.disp := rfl

@[simp] theorem setDrive_ports (x : Drive) (s : State) : (setDrive x s).ports = s.ports := rfl

@[simp] theorem setDrive_wheels (x : Drive) (s : State) : (setDrive x s).wheels = s.wheels := rfl

@[simp] theorem setDrive_steer (x : Drive) (s : State) : (setDrive x s).steer = s.steer := rfl

@[simp] theorem setDrive_winch (x : Drive) (s : State) : (setDrive x s).winch = s.winch := rfl

@[simp] theorem setDrive_supply (x : Drive) (s : State) : (setDrive x s).supply = s.supply := rfl

@[simp] theorem setDrive_alloc (x : Drive) (s : State) : (setDrive x s).alloc = s.alloc := rfl

@[simp] theorem setDrive_lights (x : Drive) (s : State) : (setDrive x s).lights = s.lights := rfl

@[simp] theorem setDrive_chassis (x : Drive) (s : State) : (setDrive x s).chassis = s.chassis := rfl

@[simp] theorem setSteer_pending (x : Steer) (s : State) : (setSteer x s).pending = s.pending := rfl

@[simp] theorem setSteer_powered (x : Steer) (s : State) : (setSteer x s).powered = s.powered := rfl

@[simp] theorem setSteer_now (x : Steer) (s : State) : (setSteer x s).now = s.now := rfl

@[simp] theorem setSteer_draws (x : Steer) (s : State) : (setSteer x s).draws = s.draws := rfl

@[simp] theorem setSteer_disp (x : Steer) (s : State) : (setSteer x s).disp = s.disp := rfl

@[simp] theorem setSteer_ports (x : Steer) (s : State) : (setSteer x s).ports = s.ports := rfl

@[simp] theorem setSteer_drive (x : Steer) (s : State) : (setSteer x s).drive = s.drive := rfl

@[simp] theorem setSteer_wheels (x : Steer) (s : State) : (setSteer x s).wheels = s.wheels := rfl

@[simp] theorem setSteer_winch (x : Steer) (s : State) : (setSteer x s).winch = s.winch := rfl

@[simp] theorem setSteer_supply (x : Steer) (s : State) : (setSteer x s).supply = s.supply := rfl

@[simp] theorem setSteer_alloc (x : Steer) (s : State) : (setSteer x s).alloc = s.alloc := rfl

@[simp] theorem setSteer_lights (x : Steer) (s : State) : (setSteer x s).lights = s.lights := rfl

@[simp] theorem setSteer_chassis (x : Steer) (s : State) : (setSteer x s).chassis = s.chassis := rfl

@[simp] theorem setWinch_pending (x : Winch) (s : State) : (setWinch x s).pending = s.pending := rfl

@[simp] theorem setWinch_powered (x : Winch) (s : State) : (setWinch x s).powered = s.powered := rfl

@[simp] theorem setWinch_now (x : Winch) (s : State) : (setWinch x s).now = s.now := rfl

@[simp] theorem setWinch_draws (x : Winch) (s : State) : (setWinch x s).draws = s.draws := rfl

@[simp] theorem setWinch_disp (x : Winch) (s : State) : (setWinch x s).disp = s.disp := rfl

@[simp] theorem setWinch_ports (x : Winch) (s : State) : (setWinch x s).ports = s.ports := rfl

@[simp] theorem setWinch_drive (x : Winch) (s : State) : (setWinch x s).drive = s.drive := rfl

@[simp] theorem setWinch_wheels (x : Winch) (s : State) : (setWinch x s).wheels = s.wheels := rfl

@[simp] theorem setWinch_steer (x : Winch) (s : State) : (setWinch x s).steer = s.steer := rfl

@[simp] theorem setWinch_supply (x : Winch) (s : State) : (setWinch x s).supply = s.supply := rfl

@[simp] theorem setWinch_alloc (x : Winch) (s : State) : (setWinch x s).alloc = s.alloc := rfl

@[simp] theorem setWinch_lights (x : Winch) (s : State) : (setWinch x s).lights = s.lights := rfl

@[simp] theorem setWinch_chassis (x : Winch) (s : State) : (setWinch x s).chassis = s.chassis := rfl

@[simp] theorem setSupply_pending (x : Supply) (s : State) : (setSupply x s).pending = s.pending := rfl

@[simp] theorem setSupply_powered (x : Supply) (s : State) : (setSupply x s).powered = s.powered := rfl

@[simp] theorem setSupply_now (x : Supply) (s : State) : (setSupply x s).now = s.now := rfl

@[simp] theorem setSupply_draws (x : Supply) (s : State) : (setSupply x s).draws = s.draws := rfl

@[simp] theorem setSupply_disp (x : Supply) (s : State) : (setSupply x s).disp = s.disp := rfl

@[simp] theorem setSupply_ports (x : Supply) (s : State) : (setSupply x s).ports = s.ports := rfl

@[simp] theorem setSupply_drive (x : Supply) (s : State) : (setSupply x s).drive = s.drive := rfl

@[simp] theorem setSupply_wheels (x : Supply) (s : State) : (setSupply x s).wheels = s.wheels := rfl

@[simp] theorem setSupply_steer (x : Supply) (s : State) : (setSupply x s).steer = s.steer := rfl

@[simp] theorem setSupply_winch (x : Supply) (s : State) : (setSupply x s).winch = s.winch := rfl

@[simp] theorem setSupply_alloc (x : Supply) (s : State) : (setSupply x s).alloc = s.alloc := rfl

@[simp] theorem setSupply_lights (x : Supply) (s : State) : (setSupply x s).lights = s.lights := rfl

@[simp] theorem setSupply_chassis (x : Supply) (s : State) : (setSupply x s).chassis = s.chassis := rfl

@[simp] theorem setLights_pending (x : Lights) (s : State) : (setLights x s).pending = s.pending := rfl

@[simp] theorem setLights_powered (x : Lights) (s : State) : (setLights x s).powered = s.powered := rfl

@[simp] theorem setLights_now (x : Lights) (s : State) : (setLights x s).now = s.now := rfl

@[simp] theorem setLights_draws (x : Lights) (s : State) : (setLights x s).draws = s.draws := rfl

@[simp] theorem setLights_disp (x : Lights) (s : State) : (setLights x s).disp = s.disp := rfl

@[simp] theorem setLights_ports (x : Lights) (s : State) : (setLights x s).ports = s.ports := rfl

@[simp] theorem setLights_drive (x : Lights) (s : State) : (setLights x s).drive = s.drive := rfl

@[simp] theorem setLights_wheels (x : Lights) (s : State) : (setLights x s).wheels = s.wheels := rfl

@[simp] theorem setLights_steer (x : Lights) (s : State) : (setLights x s).steer = s.steer := rfl

@[simp] theorem setLights_winch (x : Lights) (s : State) : (setLights x s).winch = s.winch := rfl

@[simp] theorem setLights_supply (x : Lights) (s : State) : (setLights x s).supply = s.supply := rfl

@[simp] theorem setLights_alloc (x : Lights) (s : State) : (setLights x s).alloc = s.alloc := rfl

@[simp] theorem setLights_chassis (x : Lights) (s : State) : (setLights x s).chassis = s.chassis := rfl

@[simp] theorem setChassis_pending (x : Chassis) (s : State) : (setChassis x s).pending = s.pending := rfl

@[simp] theorem setChassis_powered (x : Chassis) (s : State) : (setChassis x s).powered = s.powered := rfl

@[simp] theorem setChassis_now (x : Chassis) (s : State) : (setChassis x s).now = s.now := rfl

@[simp] theorem setChassis_draws (x : Chassis) (s : State) : (setChassis x s).draws = s.draws := rfl

@[simp] theorem setChassis_disp (x : Chassis) (s : State) : (setChassis x s).disp = s.disp := rfl

@[simp] theorem setChassis_ports (x : Chassis) (s : State) : (setChassis x s).ports = s.ports := rfl

@[simp] theorem setChassis_drive (x : Chassis) (s : State) : (setChassis x s).drive = s.drive := rfl

@[simp] theorem setChassis_wheels (x : Chassis) (s : State) : (setChassis x s).wheels = s.wheels := rfl

@[simp] theorem setChassis_steer (x : Chassis) (s : State) : (setChassis x s).steer = s.steer := rfl

@[simp] theorem setChassis_winch (x : Chassis) (s : State) : (setChassis x s).winch = s.winch := rfl

@[simp] theorem setChassis_supply (x : Chassis) (s : State) : (setChassis x s).supply = s.supply := rfl

@[simp] theorem setChassis_alloc (x : Chassis) (s : State) : (setChassis x s).alloc = s.alloc := rfl

@[simp] theorem setChassis_lights (x : Chassis) (s : State) : (setChassis x s).lights = s.lights := rfl

@[simp] theorem postTo_pending (k : Attention) (l : Link) (s : State) : (postTo k l s).pending = s.pending := rfl

@[simp] theorem postTo_powered (k : Attention) (l : Link) (s : State) : (postTo k l s).powered = s.powered := rfl

@[simp] theorem postTo_now (k : Attention) (l : Link) (s : State) : (postTo k l s).now = s.now := rfl

@[simp] theorem postTo_draws (k : Attention) (l : Link) (s : State) : (postTo k l s).draws = s.draws := rfl

@[simp] theorem postTo_ports (k : Attention) (l : Link) (s : State) : (postTo k l s).ports = s.ports := rfl

@[simp] theorem postTo_drive (k : Attention) (l : Link) (s : State) : (postTo k l s).drive = s.drive := rfl

@[simp] theorem postTo_wheels (k : Attention) (l : Link) (s : State) : (postTo k l s).wheels = s.wheels := rfl

@[simp] theorem postTo_steer (k : Attention) (l : Link) (s : State) : (postTo k l s).steer = s.steer := rfl

@[simp] theorem postTo_winch (k : Attention) (l : Link) (s : State) : (postTo k l s).winch = s.winch := rfl

@[simp] theorem postTo_supply (k : Attention) (l : Link) (s : State) : (postTo k l s).supply = s.supply := rfl

@[simp] theorem postTo_alloc (k : Attention) (l : Link) (s : State) : (postTo k l s).alloc = s.alloc := rfl

@[simp] theorem postTo_lights (k : Attention) (l : Link) (s : State) : (postTo k l s).lights = s.lights := rfl

@[simp] theorem postTo_chassis (k : Attention) (l : Link) (s : State) : (postTo k l s).chassis = s.chassis := rfl

@[simp] theorem postAll_pending (k : Attention) (s : State) : (postAll k s).pending = s.pending := rfl

@[simp] theorem postAll_powered (k : Attention) (s : State) : (postAll k s).powered = s.powered := rfl

@[simp] theorem postAll_now (k : Attention) (s : State) : (postAll k s).now = s.now := rfl

@[simp] theorem postAll_draws (k : Attention) (s : State) : (postAll k s).draws = s.draws := rfl

@[simp] theorem postAll_ports (k : Attention) (s : State) : (postAll k s).ports = s.ports := rfl

@[simp] theorem postAll_drive (k : Attention) (s : State) : (postAll k s).drive = s.drive := rfl

@[simp] theorem postAll_wheels (k : Attention) (s : State) : (postAll k s).wheels = s.wheels := rfl

@[simp] theorem postAll_steer (k : Attention) (s : State) : (postAll k s).steer = s.steer := rfl

@[simp] theorem postAll_winch (k : Attention) (s : State) : (postAll k s).winch = s.winch := rfl

@[simp] theorem postAll_supply (k : Attention) (s : State) : (postAll k s).supply = s.supply := rfl

@[simp] theorem postAll_alloc (k : Attention) (s : State) : (postAll k s).alloc = s.alloc := rfl

@[simp] theorem postAll_lights (k : Attention) (s : State) : (postAll k s).lights = s.lights := rfl

@[simp] theorem postAll_chassis (k : Attention) (s : State) : (postAll k s).chassis = s.chassis := rfl

@[simp] theorem postOthers_pending (k : Attention) (l : Link) (s : State) : (postOthers k l s).pending = s.pending := rfl

@[simp] theorem postOthers_powered (k : Attention) (l : Link) (s : State) : (postOthers k l s).powered = s.powered := rfl

@[simp] theorem postOthers_now (k : Attention) (l : Link) (s : State) : (postOthers k l s).now = s.now := rfl

@[simp] theorem postOthers_draws (k : Attention) (l : Link) (s : State) : (postOthers k l s).draws = s.draws := rfl

@[simp] theorem postOthers_ports (k : Attention) (l : Link) (s : State) : (postOthers k l s).ports = s.ports := rfl

@[simp] theorem postOthers_drive (k : Attention) (l : Link) (s : State) : (postOthers k l s).drive = s.drive := rfl

@[simp] theorem postOthers_wheels (k : Attention) (l : Link) (s : State) : (postOthers k l s).wheels = s.wheels := rfl

@[simp] theorem postOthers_steer (k : Attention) (l : Link) (s : State) : (postOthers k l s).steer = s.steer := rfl

@[simp] theorem postOthers_winch (k : Attention) (l : Link) (s : State) : (postOthers k l s).winch = s.winch := rfl

@[simp] theorem postOthers_supply (k : Attention) (l : Link) (s : State) : (postOthers k l s).supply = s.supply := rfl

@[simp] theorem postOthers_alloc (k : Attention) (l : Link) (s : State) : (postOthers k l s).alloc = s.alloc := rfl

@[simp] theorem postOthers_lights (k : Attention) (l : Link) (s : State) : (postOthers k l s).lights = s.lights := rfl

@[simp] theorem postOthers_chassis (k : Attention) (l : Link) (s : State) : (postOthers k l s).chassis = s.chassis := rfl

@[simp] theorem writeSense_pending (l : Link) (x : Sense) (s : State) : (writeSense l x s).pending = s.pending := rfl

@[simp] theorem writeSense_powered (l : Link) (x : Sense) (s : State) : (writeSense l x s).powered = s.powered := rfl

@[simp] theorem writeSense_now (l : Link) (x : Sense) (s : State) : (writeSense l x s).now = s.now := rfl

@[simp] theorem writeSense_draws (l : Link) (x : Sense) (s : State) : (writeSense l x s).draws = s.draws := rfl

@[simp] theorem writeSense_ports (l : Link) (x : Sense) (s : State) : (writeSense l x s).ports = s.ports := rfl

@[simp] theorem writeSense_drive (l : Link) (x : Sense) (s : State) : (writeSense l x s).drive = s.drive := rfl

@[simp] theorem writeSense_wheels (l : Link) (x : Sense) (s : State) : (writeSense l x s).wheels = s.wheels := rfl

@[simp] theorem writeSense_steer (l : Link) (x : Sense) (s : State) : (writeSense l x s).steer = s.steer := rfl

@[simp] theorem writeSense_winch (l : Link) (x : Sense) (s : State) : (writeSense l x s).winch = s.winch := rfl

@[simp] theorem writeSense_supply (l : Link) (x : Sense) (s : State) : (writeSense l x s).supply = s.supply := rfl

@[simp] theorem writeSense_alloc (l : Link) (x : Sense) (s : State) : (writeSense l x s).alloc = s.alloc := rfl

@[simp] theorem writeSense_lights (l : Link) (x : Sense) (s : State) : (writeSense l x s).lights = s.lights := rfl

@[simp] theorem writeSense_chassis (l : Link) (x : Sense) (s : State) : (writeSense l x s).chassis = s.chassis := rfl

@[simp] theorem setHolder_pending (u : UnitId) (m : Option Link) (s : State) : (setHolder u m s).pending = s.pending := rfl

@[simp] theorem setHolder_powered (u : UnitId) (m : Option Link) (s : State) : (setHolder u m s).powered = s.powered := rfl

@[simp] theorem setHolder_now (u : UnitId) (m : Option Link) (s : State) : (setHolder u m s).now = s.now := rfl

@[simp] theorem setHolder_draws (u : UnitId) (m : Option Link) (s : State) : (setHolder u m s).draws = s.draws := rfl

@[simp] theorem setHolder_ports (u : UnitId) (m : Option Link) (s : State) : (setHolder u m s).ports = s.ports := rfl

@[simp] theorem setHolder_drive (u : UnitId) (m : Option Link) (s : State) : (setHolder u m s).drive = s.drive := rfl

@[simp] theorem setHolder_wheels (u : UnitId) (m : Option Link) (s : State) : (setHolder u m s).wheels = s.wheels := rfl

@[simp] theorem setHolder_steer (u : UnitId) (m : Option Link) (s : State) : (setHolder u m s).steer = s.steer := rfl

@[simp] theorem setHolder_winch (u : UnitId) (m : Option Link) (s : State) : (setHolder u m s).winch = s.winch := rfl

@[simp] theorem setHolder_supply (u : UnitId) (m : Option Link) (s : State) : (setHolder u m s).supply = s.supply := rfl

@[simp] theorem setHolder_alloc (u : UnitId) (m : Option Link) (s : State) : (setHolder u m s).alloc = s.alloc := rfl

@[simp] theorem setHolder_lights (u : UnitId) (m : Option Link) (s : State) : (setHolder u m s).lights = s.lights := rfl

@[simp] theorem setHolder_chassis (u : UnitId) (m : Option Link) (s : State) : (setHolder u m s).chassis = s.chassis := rfl

@[simp] theorem dropOp_pending (u : UnitId) (s : State) : (dropOp u s).pending = s.pending := rfl

@[simp] theorem dropOp_powered (u : UnitId) (s : State) : (dropOp u s).powered = s.powered := rfl

@[simp] theorem dropOp_now (u : UnitId) (s : State) : (dropOp u s).now = s.now := rfl

@[simp] theorem dropOp_draws (u : UnitId) (s : State) : (dropOp u s).draws = s.draws := rfl

@[simp] theorem dropOp_ports (u : UnitId) (s : State) : (dropOp u s).ports = s.ports := rfl

@[simp] theorem dropOp_drive (u : UnitId) (s : State) : (dropOp u s).drive = s.drive := rfl

@[simp] theorem dropOp_wheels (u : UnitId) (s : State) : (dropOp u s).wheels = s.wheels := rfl

@[simp] theorem dropOp_steer (u : UnitId) (s : State) : (dropOp u s).steer = s.steer := rfl

@[simp] theorem dropOp_winch (u : UnitId) (s : State) : (dropOp u s).winch = s.winch := rfl

@[simp] theorem dropOp_supply (u : UnitId) (s : State) : (dropOp u s).supply = s.supply := rfl

@[simp] theorem dropOp_alloc (u : UnitId) (s : State) : (dropOp u s).alloc = s.alloc := rfl

@[simp] theorem dropOp_lights (u : UnitId) (s : State) : (dropOp u s).lights = s.lights := rfl

@[simp] theorem dropOp_chassis (u : UnitId) (s : State) : (dropOp u s).chassis = s.chassis := rfl

@[simp] theorem offer_pending (n : Notice) (s : State) : (offer n s).pending = s.pending := rfl

@[simp] theorem offer_powered (n : Notice) (s : State) : (offer n s).powered = s.powered := rfl

@[simp] theorem offer_now (n : Notice) (s : State) : (offer n s).now = s.now := rfl

@[simp] theorem offer_draws (n : Notice) (s : State) : (offer n s).draws = s.draws := rfl

@[simp] theorem offer_disp (n : Notice) (s : State) : (offer n s).disp = s.disp := rfl

@[simp] theorem offer_drive (n : Notice) (s : State) : (offer n s).drive = s.drive := rfl

@[simp] theorem offer_wheels (n : Notice) (s : State) : (offer n s).wheels = s.wheels := rfl

@[simp] theorem offer_steer (n : Notice) (s : State) : (offer n s).steer = s.steer := rfl

@[simp] theorem offer_winch (n : Notice) (s : State) : (offer n s).winch = s.winch := rfl

@[simp] theorem offer_supply (n : Notice) (s : State) : (offer n s).supply = s.supply := rfl

@[simp] theorem offer_alloc (n : Notice) (s : State) : (offer n s).alloc = s.alloc := rfl

@[simp] theorem offer_lights (n : Notice) (s : State) : (offer n s).lights = s.lights := rfl

@[simp] theorem offer_chassis (n : Notice) (s : State) : (offer n s).chassis = s.chassis := rfl

@[simp] theorem arbitrate_pending  (s : State) : (arbitrate s).pending = s.pending := rfl

@[simp] theorem arbitrate_powered  (s : State) : (arbitrate s).powered = s.powered := rfl

@[simp] theorem arbitrate_now  (s : State) : (arbitrate s).now = s.now := rfl

@[simp] theorem arbitrate_disp  (s : State) : (arbitrate s).disp = s.disp := rfl

@[simp] theorem arbitrate_drive  (s : State) : (arbitrate s).drive = s.drive := rfl

@[simp] theorem arbitrate_wheels  (s : State) : (arbitrate s).wheels = s.wheels := rfl

@[simp] theorem arbitrate_steer  (s : State) : (arbitrate s).steer = s.steer := rfl

@[simp] theorem arbitrate_winch  (s : State) : (arbitrate s).winch = s.winch := rfl

@[simp] theorem arbitrate_supply  (s : State) : (arbitrate s).supply = s.supply := rfl

@[simp] theorem arbitrate_alloc  (s : State) : (arbitrate s).alloc = s.alloc := rfl

@[simp] theorem arbitrate_lights  (s : State) : (arbitrate s).lights = s.lights := rfl

@[simp] theorem arbitrate_chassis  (s : State) : (arbitrate s).chassis = s.chassis := rfl

@[simp] theorem goodFrame_pending (l : Link) (s : State) : (goodFrame l s).pending = s.pending := rfl

@[simp] theorem goodFrame_powered (l : Link) (s : State) : (goodFrame l s).powered = s.powered := rfl

@[simp] theorem goodFrame_now (l : Link) (s : State) : (goodFrame l s).now = s.now := rfl

@[simp] theorem goodFrame_draws (l : Link) (s : State) : (goodFrame l s).draws = s.draws := rfl

@[simp] theorem goodFrame_disp (l : Link) (s : State) : (goodFrame l s).disp = s.disp := rfl

@[simp] theorem goodFrame_drive (l : Link) (s : State) : (goodFrame l s).drive = s.drive := rfl

@[simp] theorem goodFrame_wheels (l : Link) (s : State) : (goodFrame l s).wheels = s.wheels := rfl

@[simp] theorem goodFrame_steer (l : Link) (s : State) : (goodFrame l s).steer = s.steer := rfl

@[simp] theorem goodFrame_winch (l : Link) (s : State) : (goodFrame l s).winch = s.winch := rfl

@[simp] theorem goodFrame_supply (l : Link) (s : State) : (goodFrame l s).supply = s.supply := rfl

@[simp] theorem goodFrame_alloc (l : Link) (s : State) : (goodFrame l s).alloc = s.alloc := rfl

@[simp] theorem goodFrame_lights (l : Link) (s : State) : (goodFrame l s).lights = s.lights := rfl

@[simp] theorem goodFrame_chassis (l : Link) (s : State) : (goodFrame l s).chassis = s.chassis := rfl

@[simp] theorem markUnsaved_pending  (s : State) : (markUnsaved s).pending = s.pending := rfl

@[simp] theorem markUnsaved_powered  (s : State) : (markUnsaved s).powered = s.powered := rfl

@[simp] theorem markUnsaved_now  (s : State) : (markUnsaved s).now = s.now := rfl

@[simp] theorem markUnsaved_draws  (s : State) : (markUnsaved s).draws = s.draws := rfl

@[simp] theorem markUnsaved_disp  (s : State) : (markUnsaved s).disp = s.disp := rfl

@[simp] theorem markUnsaved_ports  (s : State) : (markUnsaved s).ports = s.ports := rfl

@[simp] theorem markUnsaved_drive  (s : State) : (markUnsaved s).drive = s.drive := rfl

@[simp] theorem markUnsaved_wheels  (s : State) : (markUnsaved s).wheels = s.wheels := rfl

@[simp] theorem markUnsaved_steer  (s : State) : (markUnsaved s).steer = s.steer := rfl

@[simp] theorem markUnsaved_winch  (s : State) : (markUnsaved s).winch = s.winch := rfl

@[simp] theorem markUnsaved_supply  (s : State) : (markUnsaved s).supply = s.supply := rfl

@[simp] theorem markUnsaved_alloc  (s : State) : (markUnsaved s).alloc = s.alloc := rfl

@[simp] theorem markUnsaved_lights  (s : State) : (markUnsaved s).lights = s.lights := rfl

@[simp] theorem startCommit_pending  (s : State) : (startCommit s).pending = s.pending := rfl

@[simp] theorem startCommit_powered  (s : State) : (startCommit s).powered = s.powered := rfl

@[simp] theorem startCommit_now  (s : State) : (startCommit s).now = s.now := rfl

@[simp] theorem startCommit_draws  (s : State) : (startCommit s).draws = s.draws := rfl

@[simp] theorem startCommit_disp  (s : State) : (startCommit s).disp = s.disp := rfl

@[simp] theorem startCommit_ports  (s : State) : (startCommit s).ports = s.ports := rfl

@[simp] theorem startCommit_drive  (s : State) : (startCommit s).drive = s.drive := rfl

@[simp] theorem startCommit_wheels  (s : State) : (startCommit s).wheels = s.wheels := rfl

@[simp] theorem startCommit_steer  (s : State) : (startCommit s).steer = s.steer := rfl

@[simp] theorem startCommit_winch  (s : State) : (startCommit s).winch = s.winch := rfl

@[simp] theorem startCommit_supply  (s : State) : (startCommit s).supply = s.supply := rfl

@[simp] theorem startCommit_alloc  (s : State) : (startCommit s).alloc = s.alloc := rfl

@[simp] theorem startCommit_lights  (s : State) : (startCommit s).lights = s.lights := rfl

@[simp] theorem takeLoaded_pending (r : Loaded) (s : State) : (takeLoaded r s).pending = s.pending := rfl

@[simp] theorem takeLoaded_powered (r : Loaded) (s : State) : (takeLoaded r s).powered = s.powered := rfl

@[simp] theorem takeLoaded_now (r : Loaded) (s : State) : (takeLoaded r s).now = s.now := rfl

@[simp] theorem takeLoaded_draws (r : Loaded) (s : State) : (takeLoaded r s).draws = s.draws := rfl

@[simp] theorem takeLoaded_disp (r : Loaded) (s : State) : (takeLoaded r s).disp = s.disp := rfl

@[simp] theorem takeLoaded_ports (r : Loaded) (s : State) : (takeLoaded r s).ports = s.ports := rfl

@[simp] theorem takeLoaded_drive (r : Loaded) (s : State) : (takeLoaded r s).drive = s.drive := rfl

@[simp] theorem takeLoaded_wheels (r : Loaded) (s : State) : (takeLoaded r s).wheels = s.wheels := rfl

@[simp] theorem takeLoaded_steer (r : Loaded) (s : State) : (takeLoaded r s).steer = s.steer := rfl

@[simp] theorem takeLoaded_winch (r : Loaded) (s : State) : (takeLoaded r s).winch = s.winch := rfl

@[simp] theorem takeLoaded_supply (r : Loaded) (s : State) : (takeLoaded r s).supply = s.supply := rfl

@[simp] theorem takeLoaded_alloc (r : Loaded) (s : State) : (takeLoaded r s).alloc = s.alloc := rfl

@[simp] theorem allocationStep_pending  (s : State) : (allocationStep s).pending = s.pending := rfl

@[simp] theorem allocationStep_powered  (s : State) : (allocationStep s).powered = s.powered := rfl

@[simp] theorem allocationStep_now  (s : State) : (allocationStep s).now = s.now := rfl

@[simp] theorem allocationStep_draws  (s : State) : (allocationStep s).draws = s.draws := rfl

@[simp] theorem allocationStep_disp  (s : State) : (allocationStep s).disp = s.disp := rfl

@[simp] theorem allocationStep_ports  (s : State) : (allocationStep s).ports = s.ports := rfl

@[simp] theorem allocationStep_drive  (s : State) : (allocationStep s).drive = s.drive := rfl

@[simp] theorem allocationStep_wheels  (s : State) : (allocationStep s).wheels = s.wheels := rfl

@[simp] theorem allocationStep_steer  (s : State) : (allocationStep s).steer = s.steer := rfl

@[simp] theorem allocationStep_winch  (s : State) : (allocationStep s).winch = s.winch := rfl

@[simp] theorem allocationStep_supply  (s : State) : (allocationStep s).supply = s.supply := rfl

@[simp] theorem allocationStep_lights  (s : State) : (allocationStep s).lights = s.lights := rfl

@[simp] theorem allocationStep_chassis  (s : State) : (allocationStep s).chassis = s.chassis := rfl

@[simp] theorem createTow_pending (l : Link) (s : State) : (createTow l s).pending = s.pending := rfl

@[simp] theorem createTow_powered (l : Link) (s : State) : (createTow l s).powered = s.powered := rfl

@[simp] theorem createTow_now (l : Link) (s : State) : (createTow l s).now = s.now := rfl

@[simp] theorem createTow_draws (l : Link) (s : State) : (createTow l s).draws = s.draws := rfl

@[simp] theorem createTow_disp (l : Link) (s : State) : (createTow l s).disp = s.disp := rfl

@[simp] theorem createTow_ports (l : Link) (s : State) : (createTow l s).ports = s.ports := rfl

@[simp] theorem createTow_wheels (l : Link) (s : State) : (createTow l s).wheels = s.wheels := rfl

@[simp] theorem createTow_steer (l : Link) (s : State) : (createTow l s).steer = s.steer := rfl

@[simp] theorem createTow_supply (l : Link) (s : State) : (createTow l s).supply = s.supply := rfl

@[simp] theorem createTow_alloc (l : Link) (s : State) : (createTow l s).alloc = s.alloc := rfl

@[simp] theorem createTow_lights (l : Link) (s : State) : (createTow l s).lights = s.lights := rfl

@[simp] theorem createTow_chassis (l : Link) (s : State) : (createTow l s).chassis = s.chassis := rfl

@[simp] theorem abandonFrame_pending (l : Link) (s : State) : (abandonFrame l s).pending = s.pending := rfl

@[simp] theorem abandonFrame_powered (l : Link) (s : State) : (abandonFrame l s).powered = s.powered := rfl

@[simp] theorem abandonFrame_now (l : Link) (s : State) : (abandonFrame l s).now = s.now := rfl

@[simp] theorem abandonFrame_draws (l : Link) (s : State) : (abandonFrame l s).draws = s.draws := rfl

@[simp] theorem abandonFrame_disp (l : Link) (s : State) : (abandonFrame l s).disp = s.disp := rfl

@[simp] theorem abandonFrame_drive (l : Link) (s : State) : (abandonFrame l s).drive = s.drive := rfl

@[simp] theorem abandonFrame_wheels (l : Link) (s : State) : (abandonFrame l s).wheels = s.wheels := rfl

@[simp] theorem abandonFrame_steer (l : Link) (s : State) : (abandonFrame l s).steer = s.steer := rfl

@[simp] theorem abandonFrame_winch (l : Link) (s : State) : (abandonFrame l s).winch = s.winch := rfl

@[simp] theorem abandonFrame_supply (l : Link) (s : State) : (abandonFrame l s).supply = s.supply := rfl

@[simp] theorem abandonFrame_alloc (l : Link) (s : State) : (abandonFrame l s).alloc = s.alloc := rfl

@[simp] theorem abandonFrame_lights (l : Link) (s : State) : (abandonFrame l s).lights = s.lights := rfl

@[simp] theorem abandonFrame_chassis (l : Link) (s : State) : (abandonFrame l s).chassis = s.chassis := rfl

@[simp] theorem dutyStep_pending  (s : State) : (dutyStep s).pending = s.pending := rfl

@[simp] theorem dutyStep_powered  (s : State) : (dutyStep s).powered = s.powered := rfl

@[simp] theorem dutyStep_now  (s : State) : (dutyStep s).now = s.now := rfl

@[simp] theorem dutyStep_draws  (s : State) : (dutyStep s).draws = s.draws := rfl

@[simp] theorem dutyStep_disp  (s : State) : (dutyStep s).disp = s.disp := rfl

@[simp] theorem dutyStep_ports  (s : State) : (dutyStep s).ports = s.ports := rfl

@[simp] theorem dutyStep_drive  (s : State) : (dutyStep s).drive = s.drive := rfl

@[simp] theorem dutyStep_wheels  (s : State) : (dutyStep s).wheels = s.wheels := rfl

@[simp] theorem dutyStep_steer  (s : State) : (dutyStep s).steer = s.steer := rfl

@[simp] theorem dutyStep_supply  (s : State) : (dutyStep s).supply = s.supply := rfl

@[simp] theorem dutyStep_alloc  (s : State) : (dutyStep s).alloc = s.alloc := rfl

@[simp] theorem dutyStep_lights  (s : State) : (dutyStep s).lights = s.lights := rfl

@[simp] theorem dutyStep_chassis  (s : State) : (dutyStep s).chassis = s.chassis := rfl

@[simp] theorem setDisp_disp (x : DispatcherState) (s : State) : (setDisp x s).disp = x := rfl

@[simp] theorem setDrive_drive (x : Drive) (s : State) : (setDrive x s).drive = x := rfl

@[simp] theorem setSteer_steer (x : Steer) (s : State) : (setSteer x s).steer = x := rfl

@[simp] theorem setWinch_winch (x : Winch) (s : State) : (setWinch x s).winch = x := rfl

@[simp] theorem setSupply_supply (x : Supply) (s : State) : (setSupply x s).supply = x := rfl

@[simp] theorem setLights_lights (x : Lights) (s : State) : (setLights x s).lights = x := rfl

@[simp] theorem setChassis_chassis (x : Chassis) (s : State) : (setChassis x s).chassis = x := rfl

@[simp] theorem setPort_get_same (l : Link) (q : Port) (s : State) : (setPort l q s).ports.get l = q :=
  PerLink.get_set_same _ _ _

theorem setPort_get_other {l m : Link} (q : Port) (s : State) (h : m ≠ l) :
    (setPort l q s).ports.get m = s.ports.get m :=
  PerLink.get_set_other _ _ h

@[simp] theorem offer_get (n : Notice) (s : State) (l : Link) : (offer n s).ports.get l = (s.ports.get l).offer n :=
  PerLink.get_map _ _ _

@[simp] theorem arbitrate_get (s : State) (l : Link) :
    (arbitrate s).ports.get l =
      (s.ports.get l).endEvent (Config.noticeOrder l s.draws) (Config.noticeFirst l s.draws) s.supply.stage :=
  PerLink.get_map _ _ _

end Sys2Proof.Machine
end

