-- ==== Sys2Proof/Laws/Frames.lean ====
section
/-! SUPPORT. What each shared operation leaves alone: one lemma per field that the operation does not touch, so that a frame is found by simplification. -/

set_option Elab.async false

namespace Sys2Proof.Machine

/-! ### handDone -/

@[simp] theorem handDone_pending (u : UnitId) (op : LongOp) (r : OpResult) (s : State) : (handDone u op r s).pending = s.pending := by
  unfold handDone; split <;> simp

@[simp] theorem handDone_powered (u : UnitId) (op : LongOp) (r : OpResult) (s : State) : (handDone u op r s).powered = s.powered := by
  unfold handDone; split <;> simp

@[simp] theorem handDone_now (u : UnitId) (op : LongOp) (r : OpResult) (s : State) : (handDone u op r s).now = s.now := by
  unfold handDone; split <;> simp

@[simp] theorem handDone_draws (u : UnitId) (op : LongOp) (r : OpResult) (s : State) : (handDone u op r s).draws = s.draws := by
  unfold handDone; split <;> simp

@[simp] theorem handDone_disp (u : UnitId) (op : LongOp) (r : OpResult) (s : State) : (handDone u op r s).disp = s.disp := by
  unfold handDone; split <;> simp

@[simp] theorem handDone_drive (u : UnitId) (op : LongOp) (r : OpResult) (s : State) : (handDone u op r s).drive = s.drive := by
  unfold handDone; split <;> simp

@[simp] theorem handDone_wheels (u : UnitId) (op : LongOp) (r : OpResult) (s : State) : (handDone u op r s).wheels = s.wheels := by
  unfold handDone; split <;> simp

@[simp] theorem handDone_steer (u : UnitId) (op : LongOp) (r : OpResult) (s : State) : (handDone u op r s).steer = s.steer := by
  unfold handDone; split <;> simp

@[simp] theorem handDone_winch (u : UnitId) (op : LongOp) (r : OpResult) (s : State) : (handDone u op r s).winch = s.winch := by
  unfold handDone; split <;> simp

@[simp] theorem handDone_supply (u : UnitId) (op : LongOp) (r : OpResult) (s : State) : (handDone u op r s).supply = s.supply := by
  unfold handDone; split <;> simp

@[simp] theorem handDone_alloc (u : UnitId) (op : LongOp) (r : OpResult) (s : State) : (handDone u op r s).alloc = s.alloc := by
  unfold handDone; split <;> simp

@[simp] theorem handDone_lights (u : UnitId) (op : LongOp) (r : OpResult) (s : State) : (handDone u op r s).lights = s.lights := by
  unfold handDone; split <;> simp

@[simp] theorem handDone_chassis (u : UnitId) (op : LongOp) (r : OpResult) (s : State) : (handDone u op r s).chassis = s.chassis := by
  unfold handDone; split <;> simp

/-! ### endOp -/

@[simp] theorem endOp_pending (u : UnitId) (r : OpResult) (s : State) : (endOp u r s).pending = s.pending := by
  unfold endOp; split <;> simp

@[simp] theorem endOp_powered (u : UnitId) (r : OpResult) (s : State) : (endOp u r s).powered = s.powered := by
  unfold endOp; split <;> simp

@[simp] theorem endOp_now (u : UnitId) (r : OpResult) (s : State) : (endOp u r s).now = s.now := by
  unfold endOp; split <;> simp

@[simp] theorem endOp_draws (u : UnitId) (r : OpResult) (s : State) : (endOp u r s).draws = s.draws := by
  unfold endOp; split <;> simp

@[simp] theorem endOp_drive (u : UnitId) (r : OpResult) (s : State) : (endOp u r s).drive = s.drive := by
  unfold endOp; split <;> simp

@[simp] theorem endOp_wheels (u : UnitId) (r : OpResult) (s : State) : (endOp u r s).wheels = s.wheels := by
  unfold endOp; split <;> simp

@[simp] theorem endOp_steer (u : UnitId) (r : OpResult) (s : State) : (endOp u r s).steer = s.steer := by
  unfold endOp; split <;> simp

@[simp] theorem endOp_winch (u : UnitId) (r : OpResult) (s : State) : (endOp u r s).winch = s.winch := by
  unfold endOp; split <;> simp

@[simp] theorem endOp_supply (u : UnitId) (r : OpResult) (s : State) : (endOp u r s).supply = s.supply := by
  unfold endOp; split <;> simp

@[simp] theorem endOp_alloc (u : UnitId) (r : OpResult) (s : State) : (endOp u r s).alloc = s.alloc := by
  unfold endOp; split <;> simp

@[simp] theorem endOp_lights (u : UnitId) (r : OpResult) (s : State) : (endOp u r s).lights = s.lights := by
  unfold endOp; split <;> simp

@[simp] theorem endOp_chassis (u : UnitId) (r : OpResult) (s : State) : (endOp u r s).chassis = s.chassis := by
  unfold endOp; split <;> simp

/-! ### offerList -/

@[simp] theorem offerList_pending (ns : List Notice) (s : State) : (offerList ns s).pending = s.pending := by
  induction ns generalizing s with
  | nil => rfl
  | cons n ns ih => exact ih (offer n s)

@[simp] theorem offerList_powered (ns : List Notice) (s : State) : (offerList ns s).powered = s.powered := by
  induction ns generalizing s with
  | nil => rfl
  | cons n ns ih => exact ih (offer n s)

@[simp] theorem offerList_now (ns : List Notice) (s : State) : (offerList ns s).now = s.now := by
  induction ns generalizing s with
  | nil => rfl
  | cons n ns ih => exact ih (offer n s)

@[simp] theorem offerList_draws (ns : List Notice) (s : State) : (offerList ns s).draws = s.draws := by
  induction ns generalizing s with
  | nil => rfl
  | cons n ns ih => exact ih (offer n s)

@[simp] theorem offerList_disp (ns : List Notice) (s : State) : (offerList ns s).disp = s.disp := by
  induction ns generalizing s with
  | nil => rfl
  | cons n ns ih => exact ih (offer n s)

@[simp] theorem offerList_drive (ns : List Notice) (s : State) : (offerList ns s).drive = s.drive := by
  induction ns generalizing s with
  | nil => rfl
  | cons n ns ih => exact ih (offer n s)

@[simp] theorem offerList_wheels (ns : List Notice) (s : State) : (offerList ns s).wheels = s.wheels := by
  induction ns generalizing s with
  | nil => rfl
  | cons n ns ih => exact ih (offer n s)

@[simp] theorem offerList_steer (ns : List Notice) (s : State) : (offerList ns s).steer = s.steer := by
  induction ns generalizing s with
  | nil => rfl
  | cons n ns ih => exact ih (offer n s)

@[simp] theorem offerList_winch (ns : List Notice) (s : State) : (offerList ns s).winch = s.winch := by
  induction ns generalizing s with
  | nil => rfl
  | cons n ns ih => exact ih (offer n s)

@[simp] theorem offerList_supply (ns : List Notice) (s : State) : (offerList ns s).supply = s.supply := by
  induction ns generalizing s with
  | nil => rfl
  | cons n ns ih => exact ih (offer n s)

@[simp] theorem offerList_alloc (ns : List Notice) (s : State) : (offerList ns s).alloc = s.alloc := by
  induction ns generalizing s with
  | nil => rfl
  | cons n ns ih => exact ih (offer n s)

@[simp] theorem offerList_lights (ns : List Notice) (s : State) : (offerList ns s).lights = s.lights := by
  induction ns generalizing s with
  | nil => rfl
  | cons n ns ih => exact ih (offer n s)

@[simp] theorem offerList_chassis (ns : List Notice) (s : State) : (offerList ns s).chassis = s.chassis := by
  induction ns generalizing s with
  | nil => rfl
  | cons n ns ih => exact ih (offer n s)

/-! ### handHold -/

@[simp] theorem handHold_pending (r : Bool) (s : State) : (handHold r s).pending = s.pending := by
  unfold handHold; simp

@[simp] theorem handHold_powered (r : Bool) (s : State) : (handHold r s).powered = s.powered := by
  unfold handHold; simp

@[simp] theorem handHold_now (r : Bool) (s : State) : (handHold r s).now = s.now := by
  unfold handHold; simp

@[simp] theorem handHold_draws (r : Bool) (s : State) : (handHold r s).draws = s.draws := by
  unfold handHold; simp

@[simp] theorem handHold_disp (r : Bool) (s : State) : (handHold r s).disp = s.disp := by
  unfold handHold; simp

@[simp] theorem handHold_drive (r : Bool) (s : State) : (handHold r s).drive = s.drive := by
  unfold handHold; simp

@[simp] theorem handHold_steer (r : Bool) (s : State) : (handHold r s).steer = s.steer := by
  unfold handHold; simp

@[simp] theorem handHold_winch (r : Bool) (s : State) : (handHold r s).winch = s.winch := by
  unfold handHold; simp

@[simp] theorem handHold_supply (r : Bool) (s : State) : (handHold r s).supply = s.supply := by
  unfold handHold; simp

@[simp] theorem handHold_alloc (r : Bool) (s : State) : (handHold r s).alloc = s.alloc := by
  unfold handHold; simp

@[simp] theorem handHold_lights (r : Bool) (s : State) : (handHold r s).lights = s.lights := by
  unfold handHold; simp

@[simp] theorem handHold_chassis (r : Bool) (s : State) : (handHold r s).chassis = s.chassis := by
  unfold handHold; simp

/-! ### haltDrive -/

@[simp] theorem haltDrive_pending (st : DriveState) (r : Bool) (s : State) : (haltDrive st r s).pending = s.pending := by
  unfold haltDrive; simp

@[simp] theorem haltDrive_powered (st : DriveState) (r : Bool) (s : State) : (haltDrive st r s).powered = s.powered := by
  unfold haltDrive; simp

@[simp] theorem haltDrive_now (st : DriveState) (r : Bool) (s : State) : (haltDrive st r s).now = s.now := by
  unfold haltDrive; simp

@[simp] theorem haltDrive_draws (st : DriveState) (r : Bool) (s : State) : (haltDrive st r s).draws = s.draws := by
  unfold haltDrive; simp

@[simp] theorem haltDrive_disp (st : DriveState) (r : Bool) (s : State) : (haltDrive st r s).disp = s.disp := by
  unfold haltDrive; simp

@[simp] theorem haltDrive_steer (st : DriveState) (r : Bool) (s : State) : (haltDrive st r s).steer = s.steer := by
  unfold haltDrive; simp

@[simp] theorem haltDrive_winch (st : DriveState) (r : Bool) (s : State) : (haltDrive st r s).winch = s.winch := by
  unfold haltDrive; simp

@[simp] theorem haltDrive_supply (st : DriveState) (r : Bool) (s : State) : (haltDrive st r s).supply = s.supply := by
  unfold haltDrive; simp

@[simp] theorem haltDrive_alloc (st : DriveState) (r : Bool) (s : State) : (haltDrive st r s).alloc = s.alloc := by
  unfold haltDrive; simp

@[simp] theorem haltDrive_lights (st : DriveState) (r : Bool) (s : State) : (haltDrive st r s).lights = s.lights := by
  unfold haltDrive; simp

@[simp] theorem haltDrive_chassis (st : DriveState) (r : Bool) (s : State) : (haltDrive st r s).chassis = s.chassis := by
  unfold haltDrive; simp

/-! ### stopDrive -/

@[simp] theorem stopDrive_pending (s : State) : (stopDrive s).pending = s.pending := by
  unfold stopDrive; simp

@[simp] theorem stopDrive_powered (s : State) : (stopDrive s).powered = s.powered := by
  unfold stopDrive; simp

@[simp] theorem stopDrive_now (s : State) : (stopDrive s).now = s.now := by
  unfold stopDrive; simp

@[simp] theorem stopDrive_draws (s : State) : (stopDrive s).draws = s.draws := by
  unfold stopDrive; simp

@[simp] theorem stopDrive_disp (s : State) : (stopDrive s).disp = s.disp := by
  unfold stopDrive; simp

@[simp] theorem stopDrive_steer (s : State) : (stopDrive s).steer = s.steer := by
  unfold stopDrive; simp

@[simp] theorem stopDrive_winch (s : State) : (stopDrive s).winch = s.winch := by
  unfold stopDrive; simp

@[simp] theorem stopDrive_supply (s : State) : (stopDrive s).supply = s.supply := by
  unfold stopDrive; simp

@[simp] theorem stopDrive_alloc (s : State) : (stopDrive s).alloc = s.alloc := by
  unfold stopDrive; simp

@[simp] theorem stopDrive_lights (s : State) : (stopDrive s).lights = s.lights := by
  unfold stopDrive; simp

@[simp] theorem stopDrive_chassis (s : State) : (stopDrive s).chassis = s.chassis := by
  unfold stopDrive; simp

/-! ### endTow -/

@[simp] theorem endTow_pending (c : TowCause) (s : State) : (endTow c s).pending = s.pending := by
  unfold endTow; split <;> simp

@[simp] theorem endTow_powered (c : TowCause) (s : State) : (endTow c s).powered = s.powered := by
  unfold endTow; split <;> simp

@[simp] theorem endTow_now (c : TowCause) (s : State) : (endTow c s).now = s.now := by
  unfold endTow; split <;> simp

@[simp] theorem endTow_draws (c : TowCause) (s : State) : (endTow c s).draws = s.draws := by
  unfold endTow; split <;> simp

@[simp] theorem endTow_disp (c : TowCause) (s : State) : (endTow c s).disp = s.disp := by
  unfold endTow; split <;> simp

@[simp] theorem endTow_steer (c : TowCause) (s : State) : (endTow c s).steer = s.steer := by
  unfold endTow; split <;> simp

@[simp] theorem endTow_supply (c : TowCause) (s : State) : (endTow c s).supply = s.supply := by
  unfold endTow; split <;> simp

@[simp] theorem endTow_alloc (c : TowCause) (s : State) : (endTow c s).alloc = s.alloc := by
  unfold endTow; split <;> simp

@[simp] theorem endTow_lights (c : TowCause) (s : State) : (endTow c s).lights = s.lights := by
  unfold endTow; split <;> simp

@[simp] theorem endTow_chassis (c : TowCause) (s : State) : (endTow c s).chassis = s.chassis := by
  unfold endTow; split <;> simp

/-! ### endWinchOp -/

@[simp] theorem endWinchOp_pending (r : OpResult) (s : State) : (endWinchOp r s).pending = s.pending := by
  unfold endWinchOp; simp

@[simp] theorem endWinchOp_powered (r : OpResult) (s : State) : (endWinchOp r s).powered = s.powered := by
  unfold endWinchOp; simp

@[simp] theorem endWinchOp_now (r : OpResult) (s : State) : (endWinchOp r s).now = s.now := by
  unfold endWinchOp; simp

@[simp] theorem endWinchOp_draws (r : OpResult) (s : State) : (endWinchOp r s).draws = s.draws := by
  unfold endWinchOp; simp

@[simp] theorem endWinchOp_drive (r : OpResult) (s : State) : (endWinchOp r s).drive = s.drive := by
  unfold endWinchOp; simp

@[simp] theorem endWinchOp_wheels (r : OpResult) (s : State) : (endWinchOp r s).wheels = s.wheels := by
  unfold endWinchOp; simp

@[simp] theorem endWinchOp_steer (r : OpResult) (s : State) : (endWinchOp r s).steer = s.steer := by
  unfold endWinchOp; simp

@[simp] theorem endWinchOp_supply (r : OpResult) (s : State) : (endWinchOp r s).supply = s.supply := by
  unfold endWinchOp; simp

@[simp] theorem endWinchOp_alloc (r : OpResult) (s : State) : (endWinchOp r s).alloc = s.alloc := by
  unfold endWinchOp; simp

@[simp] theorem endWinchOp_lights (r : OpResult) (s : State) : (endWinchOp r s).lights = s.lights := by
  unfold endWinchOp; simp

@[simp] theorem endWinchOp_chassis (r : OpResult) (s : State) : (endWinchOp r s).chassis = s.chassis := by
  unfold endWinchOp; simp

/-! ### payoutLimitStop -/

@[simp] theorem payoutLimitStop_pending (s : State) : (payoutLimitStop s).pending = s.pending := by
  unfold payoutLimitStop; split <;> simp

@[simp] theorem payoutLimitStop_powered (s : State) : (payoutLimitStop s).powered = s.powered := by
  unfold payoutLimitStop; split <;> simp

@[simp] theorem payoutLimitStop_now (s : State) : (payoutLimitStop s).now = s.now := by
  unfold payoutLimitStop; split <;> simp

@[simp] theorem payoutLimitStop_draws (s : State) : (payoutLimitStop s).draws = s.draws := by
  unfold payoutLimitStop; split <;> simp

@[simp] theorem payoutLimitStop_disp (s : State) : (payoutLimitStop s).disp = s.disp := by
  unfold payoutLimitStop; split <;> simp

@[simp] theorem payoutLimitStop_drive (s : State) : (payoutLimitStop s).drive = s.drive := by
  unfold payoutLimitStop; split <;> simp

@[simp] theorem payoutLimitStop_wheels (s : State) : (payoutLimitStop s).wheels = s.wheels := by
  unfold payoutLimitStop; split <;> simp

@[simp] theorem payoutLimitStop_steer (s : State) : (payoutLimitStop s).steer = s.steer := by
  unfold payoutLimitStop; split <;> simp

@[simp] theorem payoutLimitStop_supply (s : State) : (payoutLimitStop s).supply = s.supply := by
  unfold payoutLimitStop; split <;> simp

@[simp] theorem payoutLimitStop_alloc (s : State) : (payoutLimitStop s).alloc = s.alloc := by
  unfold payoutLimitStop; split <;> simp

@[simp] theorem payoutLimitStop_lights (s : State) : (payoutLimitStop s).lights = s.lights := by
  unfold payoutLimitStop; split <;> simp

@[simp] theorem payoutLimitStop_chassis (s : State) : (payoutLimitStop s).chassis = s.chassis := by
  unfold payoutLimitStop; split <;> simp

/-! ### moveEndCheck -/

@[simp] theorem moveEndCheck_pending (s : State) : (moveEndCheck s).pending = s.pending := by
  unfold moveEndCheck; split <;> simp

@[simp] theorem moveEndCheck_powered (s : State) : (moveEndCheck s).powered = s.powered := by
  unfold moveEndCheck; split <;> simp

@[simp] theorem moveEndCheck_now (s : State) : (moveEndCheck s).now = s.now := by
  unfold moveEndCheck; split <;> simp

@[simp] theorem moveEndCheck_draws (s : State) : (moveEndCheck s).draws = s.draws := by
  unfold moveEndCheck; split <;> simp

@[simp] theorem moveEndCheck_drive (s : State) : (moveEndCheck s).drive = s.drive := by
  unfold moveEndCheck; split <;> simp

@[simp] theorem moveEndCheck_wheels (s : State) : (moveEndCheck s).wheels = s.wheels := by
  unfold moveEndCheck; split <;> simp

@[simp] theorem moveEndCheck_steer (s : State) : (moveEndCheck s).steer = s.steer := by
  unfold moveEndCheck; split <;> simp

@[simp] theorem moveEndCheck_supply (s : State) : (moveEndCheck s).supply = s.supply := by
  unfold moveEndCheck; split <;> simp

@[simp] theorem moveEndCheck_alloc (s : State) : (moveEndCheck s).alloc = s.alloc := by
  unfold moveEndCheck; split <;> simp

@[simp] theorem moveEndCheck_lights (s : State) : (moveEndCheck s).lights = s.lights := by
  unfold moveEndCheck; split <;> simp

@[simp] theorem moveEndCheck_chassis (s : State) : (moveEndCheck s).chassis = s.chassis := by
  unfold moveEndCheck; split <;> simp

/-! ### payoutChecks -/

@[simp] theorem payoutChecks_pending (s : State) : (payoutChecks s).pending = s.pending := by
  unfold payoutChecks; dsimp only; (repeat' split) <;> simp

@[simp] theorem payoutChecks_powered (s : State) : (payoutChecks s).powered = s.powered := by
  unfold payoutChecks; dsimp only; (repeat' split) <;> simp

@[simp] theorem payoutChecks_now (s : State) : (payoutChecks s).now = s.now := by
  unfold payoutChecks; dsimp only; (repeat' split) <;> simp

@[simp] theorem payoutChecks_draws (s : State) : (payoutChecks s).draws = s.draws := by
  unfold payoutChecks; dsimp only; (repeat' split) <;> simp

@[simp] theorem payoutChecks_drive (s : State) : (payoutChecks s).drive = s.drive := by
  unfold payoutChecks; dsimp only; (repeat' split) <;> simp

@[simp] theorem payoutChecks_wheels (s : State) : (payoutChecks s).wheels = s.wheels := by
  unfold payoutChecks; dsimp only; (repeat' split) <;> simp

@[simp] theorem payoutChecks_steer (s : State) : (payoutChecks s).steer = s.steer := by
  unfold payoutChecks; dsimp only; (repeat' split) <;> simp

@[simp] theorem payoutChecks_supply (s : State) : (payoutChecks s).supply = s.supply := by
  unfold payoutChecks; dsimp only; (repeat' split) <;> simp

@[simp] theorem payoutChecks_alloc (s : State) : (payoutChecks s).alloc = s.alloc := by
  unfold payoutChecks; dsimp only; (repeat' split) <;> simp

@[simp] theorem payoutChecks_lights (s : State) : (payoutChecks s).lights = s.lights := by
  unfold payoutChecks; dsimp only; (repeat' split) <;> simp

@[simp] theorem payoutChecks_chassis (s : State) : (payoutChecks s).chassis = s.chassis := by
  unfold payoutChecks; dsimp only; (repeat' split) <;> simp

/-! ### drumCount -/

@[simp] theorem drumCount_pending (d : LineDir) (s : State) : (drumCount d s).pending = s.pending := by
  unfold drumCount; simp

@[simp] theorem drumCount_powered (d : LineDir) (s : State) : (drumCount d s).powered = s.powered := by
  unfold drumCount; simp

@[simp] theorem drumCount_now (d : LineDir) (s : State) : (drumCount d s).now = s.now := by
  unfold drumCount; simp

@[simp] theorem drumCount_draws (d : LineDir) (s : State) : (drumCount d s).draws = s.draws := by
  unfold drumCount; simp

@[simp] theorem drumCount_drive (d : LineDir) (s : State) : (drumCount d s).drive = s.drive := by
  unfold drumCount; simp

@[simp] theorem drumCount_wheels (d : LineDir) (s : State) : (drumCount d s).wheels = s.wheels := by
  unfold drumCount; simp

@[simp] theorem drumCount_steer (d : LineDir) (s : State) : (drumCount d s).steer = s.steer := by
  unfold drumCount; simp

@[simp] theorem drumCount_supply (d : LineDir) (s : State) : (drumCount d s).supply = s.supply := by
  unfold drumCount; simp

@[simp] theorem drumCount_alloc (d : LineDir) (s : State) : (drumCount d s).alloc = s.alloc := by
  unfold drumCount; simp

@[simp] theorem drumCount_lights (d : LineDir) (s : State) : (drumCount d s).lights = s.lights := by
  unfold drumCount; simp

@[simp] theorem drumCount_chassis (d : LineDir) (s : State) : (drumCount d s).chassis = s.chassis := by
  unfold drumCount; simp

/-! ### winchWriteChecks -/

@[simp] theorem winchWriteChecks_pending (s : State) : (winchWriteChecks s).pending = s.pending := by
  unfold winchWriteChecks; split <;> simp

@[simp] theorem winchWriteChecks_powered (s : State) : (winchWriteChecks s).powered = s.powered := by
  unfold winchWriteChecks; split <;> simp

@[simp] theorem winchWriteChecks_now (s : State) : (winchWriteChecks s).now = s.now := by
  unfold winchWriteChecks; split <;> simp

@[simp] theorem winchWriteChecks_draws (s : State) : (winchWriteChecks s).draws = s.draws := by
  unfold winchWriteChecks; split <;> simp

@[simp] theorem winchWriteChecks_drive (s : State) : (winchWriteChecks s).drive = s.drive := by
  unfold winchWriteChecks; split <;> simp

@[simp] theorem winchWriteChecks_wheels (s : State) : (winchWriteChecks s).wheels = s.wheels := by
  unfold winchWriteChecks; split <;> simp

@[simp] theorem winchWriteChecks_steer (s : State) : (winchWriteChecks s).steer = s.steer := by
  unfold winchWriteChecks; split <;> simp

@[simp] theorem winchWriteChecks_supply (s : State) : (winchWriteChecks s).supply = s.supply := by
  unfold winchWriteChecks; split <;> simp

@[simp] theorem winchWriteChecks_alloc (s : State) : (winchWriteChecks s).alloc = s.alloc := by
  unfold winchWriteChecks; split <;> simp

@[simp] theorem winchWriteChecks_lights (s : State) : (winchWriteChecks s).lights = s.lights := by
  unfold winchWriteChecks; split <;> simp

@[simp] theorem winchWriteChecks_chassis (s : State) : (winchWriteChecks s).chassis = s.chassis := by
  unfold winchWriteChecks; split <;> simp

/-! ### winchStopAction -/

@[simp] theorem winchStopAction_pending (s : State) : (winchStopAction s).pending = s.pending := by
  unfold winchStopAction; split <;> simp

@[simp] theorem winchStopAction_powered (s : State) : (winchStopAction s).powered = s.powered := by
  unfold winchStopAction; split <;> simp

@[simp] theorem winchStopAction_now (s : State) : (winchStopAction s).now = s.now := by
  unfold winchStopAction; split <;> simp

@[simp] theorem winchStopAction_draws (s : State) : (winchStopAction s).draws = s.draws := by
  unfold winchStopAction; split <;> simp

@[simp] theorem winchStopAction_drive (s : State) : (winchStopAction s).drive = s.drive := by
  unfold winchStopAction; split <;> simp

@[simp] theorem winchStopAction_wheels (s : State) : (winchStopAction s).wheels = s.wheels := by
  unfold winchStopAction; split <;> simp

@[simp] theorem winchStopAction_steer (s : State) : (winchStopAction s).steer = s.steer := by
  unfold winchStopAction; split <;> simp

@[simp] theorem winchStopAction_supply (s : State) : (winchStopAction s).supply = s.supply := by
  unfold winchStopAction; split <;> simp

@[simp] theorem winchStopAction_alloc (s : State) : (winchStopAction s).alloc = s.alloc := by
  unfold winchStopAction; split <;> simp

@[simp] theorem winchStopAction_lights (s : State) : (winchStopAction s).lights = s.lights := by
  unfold winchStopAction; split <;> simp

@[simp] theorem winchStopAction_chassis (s : State) : (winchStopAction s).chassis = s.chassis := by
  unfold winchStopAction; split <;> simp

/-! ### winchCutoffEntry -/

@[simp] theorem winchCutoffEntry_pending (s : State) : (winchCutoffEntry s).pending = s.pending := by
  unfold winchCutoffEntry; split <;> simp

@[simp] theorem winchCutoffEntry_powered (s : State) : (winchCutoffEntry s).powered = s.powered := by
  unfold winchCutoffEntry; split <;> simp

@[simp] theorem winchCutoffEntry_now (s : State) : (winchCutoffEntry s).now = s.now := by
  unfold winchCutoffEntry; split <;> simp

@[simp] theorem winchCutoffEntry_draws (s : State) : (winchCutoffEntry s).draws = s.draws := by
  unfold winchCutoffEntry; split <;> simp

@[simp] theorem winchCutoffEntry_drive (s : State) : (winchCutoffEntry s).drive = s.drive := by
  unfold winchCutoffEntry; split <;> simp

@[simp] theorem winchCutoffEntry_wheels (s : State) : (winchCutoffEntry s).wheels = s.wheels := by
  unfold winchCutoffEntry; split <;> simp

@[simp] theorem winchCutoffEntry_steer (s : State) : (winchCutoffEntry s).steer = s.steer := by
  unfold winchCutoffEntry; split <;> simp

@[simp] theorem winchCutoffEntry_supply (s : State) : (winchCutoffEntry s).supply = s.supply := by
  unfold winchCutoffEntry; split <;> simp

@[simp] theorem winchCutoffEntry_alloc (s : State) : (winchCutoffEntry s).alloc = s.alloc := by
  unfold winchCutoffEntry; split <;> simp

@[simp] theorem winchCutoffEntry_lights (s : State) : (winchCutoffEntry s).lights = s.lights := by
  unfold winchCutoffEntry; split <;> simp

@[simp] theorem winchCutoffEntry_chassis (s : State) : (winchCutoffEntry s).chassis = s.chassis := by
  unfold winchCutoffEntry; split <;> simp

/-! ### cutoffEntry -/

@[simp] theorem cutoffEntry_pending (s : State) : (cutoffEntry s).pending = s.pending := by
  unfold cutoffEntry; simp

@[simp] theorem cutoffEntry_powered (s : State) : (cutoffEntry s).powered = s.powered := by
  unfold cutoffEntry; simp

@[simp] theorem cutoffEntry_now (s : State) : (cutoffEntry s).now = s.now := by
  unfold cutoffEntry; simp

@[simp] theorem cutoffEntry_draws (s : State) : (cutoffEntry s).draws = s.draws := by
  unfold cutoffEntry; simp

@[simp] theorem cutoffEntry_steer (s : State) : (cutoffEntry s).steer = s.steer := by
  unfold cutoffEntry; simp

@[simp] theorem cutoffEntry_supply (s : State) : (cutoffEntry s).supply = s.supply := by
  unfold cutoffEntry; simp

@[simp] theorem cutoffEntry_alloc (s : State) : (cutoffEntry s).alloc = s.alloc := by
  unfold cutoffEntry; simp

@[simp] theorem cutoffEntry_lights (s : State) : (cutoffEntry s).lights = s.lights := by
  unfold cutoffEntry; simp

@[simp] theorem cutoffEntry_chassis (s : State) : (cutoffEntry s).chassis = s.chassis := by
  unfold cutoffEntry; simp

/-! ### changeStage -/

@[simp] theorem changeStage_pending (n : Stage) (c : StageCause) (s : State) : (changeStage n c s).pending = s.pending := by
  unfold changeStage; split <;> simp

@[simp] theorem changeStage_powered (n : Stage) (c : StageCause) (s : State) : (changeStage n c s).powered = s.powered := by
  unfold changeStage; split <;> simp

@[simp] theorem changeStage_now (n : Stage) (c : StageCause) (s : State) : (changeStage n c s).now = s.now := by
  unfold changeStage; split <;> simp

@[simp] theorem changeStage_draws (n : Stage) (c : StageCause) (s : State) : (changeStage n c s).draws = s.draws := by
  unfold changeStage; split <;> simp

@[simp] theorem changeStage_steer (n : Stage) (c : StageCause) (s : State) : (changeStage n c s).steer = s.steer := by
  unfold changeStage; split <;> simp

@[simp] theorem changeStage_alloc (n : Stage) (c : StageCause) (s : State) : (changeStage n c s).alloc = s.alloc := by
  unfold changeStage; split <;> simp

@[simp] theorem changeStage_lights (n : Stage) (c : StageCause) (s : State) : (changeStage n c s).lights = s.lights := by
  unfold changeStage; split <;> simp

@[simp] theorem changeStage_chassis (n : Stage) (c : StageCause) (s : State) : (changeStage n c s).chassis = s.chassis := by
  unfold changeStage; split <;> simp

/-! ### downStep -/

@[simp] theorem downStep_pending (s : State) : (downStep s).1.pending = s.pending := by
  unfold downStep; dsimp only; (repeat' split) <;> simp

@[simp] theorem downStep_powered (s : State) : (downStep s).1.powered = s.powered := by
  unfold downStep; dsimp only; (repeat' split) <;> simp

@[simp] theorem downStep_now (s : State) : (downStep s).1.now = s.now := by
  unfold downStep; dsimp only; (repeat' split) <;> simp

@[simp] theorem downStep_draws (s : State) : (downStep s).1.draws = s.draws := by
  unfold downStep; dsimp only; (repeat' split) <;> simp

@[simp] theorem downStep_steer (s : State) : (downStep s).1.steer = s.steer := by
  unfold downStep; dsimp only; (repeat' split) <;> simp

@[simp] theorem downStep_alloc (s : State) : (downStep s).1.alloc = s.alloc := by
  unfold downStep; dsimp only; (repeat' split) <;> simp

@[simp] theorem downStep_lights (s : State) : (downStep s).1.lights = s.lights := by
  unfold downStep; dsimp only; (repeat' split) <;> simp

@[simp] theorem downStep_chassis (s : State) : (downStep s).1.chassis = s.chassis := by
  unfold downStep; dsimp only; (repeat' split) <;> simp

/-! ### upStep -/

@[simp] theorem upStep_pending (s : State) : (upStep s).1.pending = s.pending := by
  unfold upStep; dsimp only; (repeat' split) <;> simp

@[simp] theorem upStep_powered (s : State) : (upStep s).1.powered = s.powered := by
  unfold upStep; dsimp only; (repeat' split) <;> simp

@[simp] theorem upStep_now (s : State) : (upStep s).1.now = s.now := by
  unfold upStep; dsimp only; (repeat' split) <;> simp

@[simp] theorem upStep_draws (s : State) : (upStep s).1.draws = s.draws := by
  unfold upStep; dsimp only; (repeat' split) <;> simp

@[simp] theorem upStep_steer (s : State) : (upStep s).1.steer = s.steer := by
  unfold upStep; dsimp only; (repeat' split) <;> simp

@[simp] theorem upStep_alloc (s : State) : (upStep s).1.alloc = s.alloc := by
  unfold upStep; dsimp only; (repeat' split) <;> simp

@[simp] theorem upStep_lights (s : State) : (upStep s).1.lights = s.lights := by
  unfold upStep; dsimp only; (repeat' split) <;> simp

@[simp] theorem upStep_chassis (s : State) : (upStep s).1.chassis = s.chassis := by
  unfold upStep; dsimp only; (repeat' split) <;> simp

/-! ### stageDecision -/

@[simp] theorem stageDecision_pending (s : State) : (stageDecision s).1.pending = s.pending := by
  unfold stageDecision; dsimp only; (repeat' split) <;> simp

@[simp] theorem stageDecision_powered (s : State) : (stageDecision s).1.powered = s.powered := by
  unfold stageDecision; dsimp only; (repeat' split) <;> simp

@[simp] theorem stageDecision_now (s : State) : (stageDecision s).1.now = s.now := by
  unfold stageDecision; dsimp only; (repeat' split) <;> simp

@[simp] theorem stageDecision_draws (s : State) : (stageDecision s).1.draws = s.draws := by
  unfold stageDecision; dsimp only; (repeat' split) <;> simp

@[simp] theorem stageDecision_steer (s : State) : (stageDecision s).1.steer = s.steer := by
  unfold stageDecision; dsimp only; (repeat' split) <;> simp

@[simp] theorem stageDecision_alloc (s : State) : (stageDecision s).1.alloc = s.alloc := by
  unfold stageDecision; dsimp only; (repeat' split) <;> simp

@[simp] theorem stageDecision_lights (s : State) : (stageDecision s).1.lights = s.lights := by
  unfold stageDecision; dsimp only; (repeat' split) <;> simp

@[simp] theorem stageDecision_chassis (s : State) : (stageDecision s).1.chassis = s.chassis := by
  unfold stageDecision; dsimp only; (repeat' split) <;> simp

/-! ### supplyPeriod -/

@[simp] theorem supplyPeriod_pending (t : Taps) (i : Int) (s : State) : (supplyPeriod t i s).1.pending = s.pending := by
  unfold supplyPeriod; simp

@[simp] theorem supplyPeriod_powered (t : Taps) (i : Int) (s : State) : (supplyPeriod t i s).1.powered = s.powered := by
  unfold supplyPeriod; simp

@[simp] theorem supplyPeriod_now (t : Taps) (i : Int) (s : State) : (supplyPeriod t i s).1.now = s.now := by
  unfold supplyPeriod; simp

@[simp] theorem supplyPeriod_draws (t : Taps) (i : Int) (s : State) : (supplyPeriod t i s).1.draws = s.draws := by
  unfold supplyPeriod; simp

@[simp] theorem supplyPeriod_steer (t : Taps) (i : Int) (s : State) : (supplyPeriod t i s).1.steer = s.steer := by
  unfold supplyPeriod; simp

@[simp] theorem supplyPeriod_lights (t : Taps) (i : Int) (s : State) : (supplyPeriod t i s).1.lights = s.lights := by
  unfold supplyPeriod; simp

@[simp] theorem supplyPeriod_chassis (t : Taps) (i : Int) (s : State) : (supplyPeriod t i s).1.chassis = s.chassis := by
  unfold supplyPeriod; simp

/-! ### referenceStep -/

@[simp] theorem referenceStep_pending (s : State) : (referenceStep s).1.pending = s.pending := by
  unfold referenceStep; dsimp only; (repeat' split) <;> simp

@[simp] theorem referenceStep_powered (s : State) : (referenceStep s).1.powered = s.powered := by
  unfold referenceStep; dsimp only; (repeat' split) <;> simp

@[simp] theorem referenceStep_now (s : State) : (referenceStep s).1.now = s.now := by
  unfold referenceStep; dsimp only; (repeat' split) <;> simp

@[simp] theorem referenceStep_draws (s : State) : (referenceStep s).1.draws = s.draws := by
  unfold referenceStep; dsimp only; (repeat' split) <;> simp

@[simp] theorem referenceStep_drive (s : State) : (referenceStep s).1.drive = s.drive := by
  unfold referenceStep; dsimp only; (repeat' split) <;> simp

@[simp] theorem referenceStep_wheels (s : State) : (referenceStep s).1.wheels = s.wheels := by
  unfold referenceStep; dsimp only; (repeat' split) <;> simp

@[simp] theorem referenceStep_steer (s : State) : (referenceStep s).1.steer = s.steer := by
  unfold referenceStep; dsimp only; (repeat' split) <;> simp

@[simp] theorem referenceStep_supply (s : State) : (referenceStep s).1.supply = s.supply := by
  unfold referenceStep; dsimp only; (repeat' split) <;> simp

@[simp] theorem referenceStep_alloc (s : State) : (referenceStep s).1.alloc = s.alloc := by
  unfold referenceStep; dsimp only; (repeat' split) <;> simp

@[simp] theorem referenceStep_lights (s : State) : (referenceStep s).1.lights = s.lights := by
  unfold referenceStep; dsimp only; (repeat' split) <;> simp

@[simp] theorem referenceStep_chassis (s : State) : (referenceStep s).1.chassis = s.chassis := by
  unfold referenceStep; dsimp only; (repeat' split) <;> simp

/-! ### loadStep -/

@[simp] theorem loadStep_pending (s : State) : (loadStep s).1.pending = s.pending := by
  unfold loadStep; dsimp only; (repeat' split) <;> simp

@[simp] theorem loadStep_powered (s : State) : (loadStep s).1.powered = s.powered := by
  unfold loadStep; dsimp only; (repeat' split) <;> simp

@[simp] theorem loadStep_now (s : State) : (loadStep s).1.now = s.now := by
  unfold loadStep; dsimp only; (repeat' split) <;> simp

@[simp] theorem loadStep_draws (s : State) : (loadStep s).1.draws = s.draws := by
  unfold loadStep; dsimp only; (repeat' split) <;> simp

@[simp] theorem loadStep_drive (s : State) : (loadStep s).1.drive = s.drive := by
  unfold loadStep; dsimp only; (repeat' split) <;> simp

@[simp] theorem loadStep_wheels (s : State) : (loadStep s).1.wheels = s.wheels := by
  unfold loadStep; dsimp only; (repeat' split) <;> simp

@[simp] theorem loadStep_steer (s : State) : (loadStep s).1.steer = s.steer := by
  unfold loadStep; dsimp only; (repeat' split) <;> simp

@[simp] theorem loadStep_supply (s : State) : (loadStep s).1.supply = s.supply := by
  unfold loadStep; dsimp only; (repeat' split) <;> simp

@[simp] theorem loadStep_alloc (s : State) : (loadStep s).1.alloc = s.alloc := by
  unfold loadStep; dsimp only; (repeat' split) <;> simp

@[simp] theorem loadStep_lights (s : State) : (loadStep s).1.lights = s.lights := by
  unfold loadStep; dsimp only; (repeat' split) <;> simp

@[simp] theorem loadStep_chassis (s : State) : (loadStep s).1.chassis = s.chassis := by
  unfold loadStep; dsimp only; (repeat' split) <;> simp

/-! ### winchPeriod -/

@[simp] theorem winchPeriod_pending (m : Nat) (s : State) : (winchPeriod m s).1.pending = s.pending := by
  unfold winchPeriod; simp

@[simp] theorem winchPeriod_powered (m : Nat) (s : State) : (winchPeriod m s).1.powered = s.powered := by
  unfold winchPeriod; simp

@[simp] theorem winchPeriod_now (m : Nat) (s : State) : (winchPeriod m s).1.now = s.now := by
  unfold winchPeriod; simp

@[simp] theorem winchPeriod_draws (m : Nat) (s : State) : (winchPeriod m s).1.draws = s.draws := by
  unfold winchPeriod; simp

@[simp] theorem winchPeriod_drive (m : Nat) (s : State) : (winchPeriod m s).1.drive = s.drive := by
  unfold winchPeriod; simp

@[simp] theorem winchPeriod_wheels (m : Nat) (s : State) : (winchPeriod m s).1.wheels = s.wheels := by
  unfold winchPeriod; simp

@[simp] theorem winchPeriod_steer (m : Nat) (s : State) : (winchPeriod m s).1.steer = s.steer := by
  unfold winchPeriod; simp

@[simp] theorem winchPeriod_supply (m : Nat) (s : State) : (winchPeriod m s).1.supply = s.supply := by
  unfold winchPeriod; simp

@[simp] theorem winchPeriod_alloc (m : Nat) (s : State) : (winchPeriod m s).1.alloc = s.alloc := by
  unfold winchPeriod; simp

@[simp] theorem winchPeriod_lights (m : Nat) (s : State) : (winchPeriod m s).1.lights = s.lights := by
  unfold winchPeriod; simp

@[simp] theorem winchPeriod_chassis (m : Nat) (s : State) : (winchPeriod m s).1.chassis = s.chassis := by
  unfold winchPeriod; simp

/-! ### motionPeriod -/

@[simp] theorem motionPeriod_pending (m : Nat) (s : State) : (motionPeriod m s).pending = s.pending := by
  unfold motionPeriod; dsimp only; (repeat' split) <;> simp

@[simp] theorem motionPeriod_powered (m : Nat) (s : State) : (motionPeriod m s).powered = s.powered := by
  unfold motionPeriod; dsimp only; (repeat' split) <;> simp

@[simp] theorem motionPeriod_now (m : Nat) (s : State) : (motionPeriod m s).now = s.now := by
  unfold motionPeriod; dsimp only; (repeat' split) <;> simp

@[simp] theorem motionPeriod_draws (m : Nat) (s : State) : (motionPeriod m s).draws = s.draws := by
  unfold motionPeriod; dsimp only; (repeat' split) <;> simp

@[simp] theorem motionPeriod_disp (m : Nat) (s : State) : (motionPeriod m s).disp = s.disp := by
  unfold motionPeriod; dsimp only; (repeat' split) <;> simp

@[simp] theorem motionPeriod_winch (m : Nat) (s : State) : (motionPeriod m s).winch = s.winch := by
  unfold motionPeriod; dsimp only; (repeat' split) <;> simp

@[simp] theorem motionPeriod_supply (m : Nat) (s : State) : (motionPeriod m s).supply = s.supply := by
  unfold motionPeriod; dsimp only; (repeat' split) <;> simp

@[simp] theorem motionPeriod_alloc (m : Nat) (s : State) : (motionPeriod m s).alloc = s.alloc := by
  unfold motionPeriod; dsimp only; (repeat' split) <;> simp

@[simp] theorem motionPeriod_lights (m : Nat) (s : State) : (motionPeriod m s).lights = s.lights := by
  unfold motionPeriod; dsimp only; (repeat' split) <;> simp

@[simp] theorem motionPeriod_chassis (m : Nat) (s : State) : (motionPeriod m s).chassis = s.chassis := by
  unfold motionPeriod; dsimp only; (repeat' split) <;> simp

/-! ### regulatorPeriod -/

@[simp] theorem regulatorPeriod_pending (w : Wheel) (c : Int) (m : Nat) (s : State) : (regulatorPeriod w c m s).1.pending = s.pending := by
  unfold regulatorPeriod; simp

@[simp] theorem regulatorPeriod_powered (w : Wheel) (c : Int) (m : Nat) (s : State) : (regulatorPeriod w c m s).1.powered = s.powered := by
  unfold regulatorPeriod; simp

@[simp] theorem regulatorPeriod_now (w : Wheel) (c : Int) (m : Nat) (s : State) : (regulatorPeriod w c m s).1.now = s.now := by
  unfold regulatorPeriod; simp

@[simp] theorem regulatorPeriod_disp (w : Wheel) (c : Int) (m : Nat) (s : State) : (regulatorPeriod w c m s).1.disp = s.disp := by
  unfold regulatorPeriod; simp

@[simp] theorem regulatorPeriod_drive (w : Wheel) (c : Int) (m : Nat) (s : State) : (regulatorPeriod w c m s).1.drive = s.drive := by
  unfold regulatorPeriod; simp

@[simp] theorem regulatorPeriod_steer (w : Wheel) (c : Int) (m : Nat) (s : State) : (regulatorPeriod w c m s).1.steer = s.steer := by
  unfold regulatorPeriod; simp

@[simp] theorem regulatorPeriod_winch (w : Wheel) (c : Int) (m : Nat) (s : State) : (regulatorPeriod w c m s).1.winch = s.winch := by
  unfold regulatorPeriod; simp

@[simp] theorem regulatorPeriod_supply (w : Wheel) (c : Int) (m : Nat) (s : State) : (regulatorPeriod w c m s).1.supply = s.supply := by
  unfold regulatorPeriod; simp

@[simp] theorem regulatorPeriod_alloc (w : Wheel) (c : Int) (m : Nat) (s : State) : (regulatorPeriod w c m s).1.alloc = s.alloc := by
  unfold regulatorPeriod; simp

@[simp] theorem regulatorPeriod_lights (w : Wheel) (c : Int) (m : Nat) (s : State) : (regulatorPeriod w c m s).1.lights = s.lights := by
  unfold regulatorPeriod; simp

@[simp] theorem regulatorPeriod_chassis (w : Wheel) (c : Int) (m : Nat) (s : State) : (regulatorPeriod w c m s).1.chassis = s.chassis := by
  unfold regulatorPeriod; simp

/-! ### lightBoundary -/

@[simp] theorem lightBoundary_pending (s : State) : (lightBoundary s).1.pending = s.pending := by
  unfold lightBoundary; dsimp only; (repeat' split) <;> simp

@[simp] theorem lightBoundary_powered (s : State) : (lightBoundary s).1.powered = s.powered := by
  unfold lightBoundary; dsimp only; (repeat' split) <;> simp

@[simp] theorem lightBoundary_now (s : State) : (lightBoundary s).1.now = s.now := by
  unfold lightBoundary; dsimp only; (repeat' split) <;> simp

@[simp] theorem lightBoundary_draws (s : State) : (lightBoundary s).1.draws = s.draws := by
  unfold lightBoundary; dsimp only; (repeat' split) <;> simp

@[simp] theorem lightBoundary_drive (s : State) : (lightBoundary s).1.drive = s.drive := by
  unfold lightBoundary; dsimp only; (repeat' split) <;> simp

@[simp] theorem lightBoundary_wheels (s : State) : (lightBoundary s).1.wheels = s.wheels := by
  unfold lightBoundary; dsimp only; (repeat' split) <;> simp

@[simp] theorem lightBoundary_steer (s : State) : (lightBoundary s).1.steer = s.steer := by
  unfold lightBoundary; dsimp only; (repeat' split) <;> simp

@[simp] theorem lightBoundary_winch (s : State) : (lightBoundary s).1.winch = s.winch := by
  unfold lightBoundary; dsimp only; (repeat' split) <;> simp

@[simp] theorem lightBoundary_supply (s : State) : (lightBoundary s).1.supply = s.supply := by
  unfold lightBoundary; dsimp only; (repeat' split) <;> simp

@[simp] theorem lightBoundary_alloc (s : State) : (lightBoundary s).1.alloc = s.alloc := by
  unfold lightBoundary; dsimp only; (repeat' split) <;> simp

@[simp] theorem lightBoundary_chassis (s : State) : (lightBoundary s).1.chassis = s.chassis := by
  unfold lightBoundary; dsimp only; (repeat' split) <;> simp

/-! ### failsafe -/

@[simp] theorem failsafe_pending (l : Link) (s : State) : (failsafe l s).pending = s.pending := by
  unfold failsafe; dsimp only; (repeat' split) <;> simp

@[simp] theorem failsafe_powered (l : Link) (s : State) : (failsafe l s).powered = s.powered := by
  unfold failsafe; dsimp only; (repeat' split) <;> simp

@[simp] theorem failsafe_now (l : Link) (s : State) : (failsafe l s).now = s.now := by
  unfold failsafe; dsimp only; (repeat' split) <;> simp

@[simp] theorem failsafe_draws (l : Link) (s : State) : (failsafe l s).draws = s.draws := by
  unfold failsafe; dsimp only; (repeat' split) <;> simp

@[simp] theorem failsafe_supply (l : Link) (s : State) : (failsafe l s).supply = s.supply := by
  unfold failsafe; dsimp only; (repeat' split) <;> simp

@[simp] theorem failsafe_alloc (l : Link) (s : State) : (failsafe l s).alloc = s.alloc := by
  unfold failsafe; dsimp only; (repeat' split) <;> simp

@[simp] theorem failsafe_chassis (l : Link) (s : State) : (failsafe l s).chassis = s.chassis := by
  unfold failsafe; dsimp only; (repeat' split) <;> simp

/-! ### goSilent -/

@[simp] theorem goSilent_pending (l : Link) (s : State) : (goSilent l s).pending = s.pending := by
  unfold goSilent; simp

@[simp] theorem goSilent_powered (l : Link) (s : State) : (goSilent l s).powered = s.powered := by
  unfold goSilent; simp

@[simp] theorem goSilent_now (l : Link) (s : State) : (goSilent l s).now = s.now := by
  unfold goSilent; simp

@[simp] theorem goSilent_draws (l : Link) (s : State) : (goSilent l s).draws = s.draws := by
  unfold goSilent; simp

@[simp] theorem goSilent_supply (l : Link) (s : State) : (goSilent l s).supply = s.supply := by
  unfold goSilent; simp

@[simp] theorem goSilent_alloc (l : Link) (s : State) : (goSilent l s).alloc = s.alloc := by
  unfold goSilent; simp

@[simp] theorem goSilent_chassis (l : Link) (s : State) : (goSilent l s).chassis = s.chassis := by
  unfold goSilent; simp

/-! ### silenceTimeout -/

@[simp] theorem silenceTimeout_pending (l : Link) (s : State) : (silenceTimeout l s).pending = s.pending := by
  unfold silenceTimeout; split <;> simp

@[simp] theorem silenceTimeout_powered (l : Link) (s : State) : (silenceTimeout l s).powered = s.powered := by
  unfold silenceTimeout; split <;> simp

@[simp] theorem silenceTimeout_now (l : Link) (s : State) : (silenceTimeout l s).now = s.now := by
  unfold silenceTimeout; split <;> simp

@[simp] theorem silenceTimeout_draws (l : Link) (s : State) : (silenceTimeout l s).draws = s.draws := by
  unfold silenceTimeout; split <;> simp

@[simp] theorem silenceTimeout_supply (l : Link) (s : State) : (silenceTimeout l s).supply = s.supply := by
  unfold silenceTimeout; split <;> simp

@[simp] theorem silenceTimeout_alloc (l : Link) (s : State) : (silenceTimeout l s).alloc = s.alloc := by
  unfold silenceTimeout; split <;> simp

@[simp] theorem silenceTimeout_chassis (l : Link) (s : State) : (silenceTimeout l s).chassis = s.chassis := by
  unfold silenceTimeout; split <;> simp

/-! ### resetSilence -/

@[simp] theorem resetSilence_pending (l : Link) (s : State) : (resetSilence l s).pending = s.pending := by
  unfold resetSilence; dsimp only; (repeat' split) <;> simp

@[simp] theorem resetSilence_powered (l : Link) (s : State) : (resetSilence l s).powered = s.powered := by
  unfold resetSilence; dsimp only; (repeat' split) <;> simp

@[simp] theorem resetSilence_now (l : Link) (s : State) : (resetSilence l s).now = s.now := by
  unfold resetSilence; dsimp only; (repeat' split) <;> simp

@[simp] theorem resetSilence_draws (l : Link) (s : State) : (resetSilence l s).draws = s.draws := by
  unfold resetSilence; dsimp only; (repeat' split) <;> simp

@[simp] theorem resetSilence_supply (l : Link) (s : State) : (resetSilence l s).supply = s.supply := by
  unfold resetSilence; dsimp only; (repeat' split) <;> simp

@[simp] theorem resetSilence_alloc (l : Link) (s : State) : (resetSilence l s).alloc = s.alloc := by
  unfold resetSilence; dsimp only; (repeat' split) <;> simp

@[simp] theorem resetSilence_chassis (l : Link) (s : State) : (resetSilence l s).chassis = s.chassis := by
  unfold resetSilence; dsimp only; (repeat' split) <;> simp

/-! ### timeoutWritten -/

@[simp] theorem timeoutWritten_pending (l : Link) (s : State) : (timeoutWritten l s).pending = s.pending := by
  unfold timeoutWritten; dsimp only; (repeat' split) <;> simp

@[simp] theorem timeoutWritten_powered (l : Link) (s : State) : (timeoutWritten l s).powered = s.powered := by
  unfold timeoutWritten; dsimp only; (repeat' split) <;> simp

@[simp] theorem timeoutWritten_now (l : Link) (s : State) : (timeoutWritten l s).now = s.now := by
  unfold timeoutWritten; dsimp only; (repeat' split) <;> simp

@[simp] theorem timeoutWritten_draws (l : Link) (s : State) : (timeoutWritten l s).draws = s.draws := by
  unfold timeoutWritten; dsimp only; (repeat' split) <;> simp

@[simp] theorem timeoutWritten_disp (l : Link) (s : State) : (timeoutWritten l s).disp = s.disp := by
  unfold timeoutWritten; dsimp only; (repeat' split) <;> simp

@[simp] theorem timeoutWritten_drive (l : Link) (s : State) : (timeoutWritten l s).drive = s.drive := by
  unfold timeoutWritten; dsimp only; (repeat' split) <;> simp

@[simp] theorem timeoutWritten_wheels (l : Link) (s : State) : (timeoutWritten l s).wheels = s.wheels := by
  unfold timeoutWritten; dsimp only; (repeat' split) <;> simp

@[simp] theorem timeoutWritten_steer (l : Link) (s : State) : (timeoutWritten l s).steer = s.steer := by
  unfold timeoutWritten; dsimp only; (repeat' split) <;> simp

@[simp] theorem timeoutWritten_winch (l : Link) (s : State) : (timeoutWritten l s).winch = s.winch := by
  unfold timeoutWritten; dsimp only; (repeat' split) <;> simp

@[simp] theorem timeoutWritten_supply (l : Link) (s : State) : (timeoutWritten l s).supply = s.supply := by
  unfold timeoutWritten; dsimp only; (repeat' split) <;> simp

@[simp] theorem timeoutWritten_alloc (l : Link) (s : State) : (timeoutWritten l s).alloc = s.alloc := by
  unfold timeoutWritten; dsimp only; (repeat' split) <;> simp

@[simp] theorem timeoutWritten_lights (l : Link) (s : State) : (timeoutWritten l s).lights = s.lights := by
  unfold timeoutWritten; dsimp only; (repeat' split) <;> simp

@[simp] theorem timeoutWritten_chassis (l : Link) (s : State) : (timeoutWritten l s).chassis = s.chassis := by
  unfold timeoutWritten; dsimp only; (repeat' split) <;> simp

/-! ### fieldWritten -/

@[simp] theorem fieldWritten_pending (f : Field) (s : State) : (fieldWritten f s).pending = s.pending := by
  unfold fieldWritten; split <;> simp

@[simp] theorem fieldWritten_powered (f : Field) (s : State) : (fieldWritten f s).powered = s.powered := by
  unfold fieldWritten; split <;> simp

@[simp] theorem fieldWritten_now (f : Field) (s : State) : (fieldWritten f s).now = s.now := by
  unfold fieldWritten; split <;> simp

@[simp] theorem fieldWritten_draws (f : Field) (s : State) : (fieldWritten f s).draws = s.draws := by
  unfold fieldWritten; split <;> simp

@[simp] theorem fieldWritten_drive (f : Field) (s : State) : (fieldWritten f s).drive = s.drive := by
  unfold fieldWritten; split <;> simp

@[simp] theorem fieldWritten_wheels (f : Field) (s : State) : (fieldWritten f s).wheels = s.wheels := by
  unfold fieldWritten; split <;> simp

@[simp] theorem fieldWritten_supply (f : Field) (s : State) : (fieldWritten f s).supply = s.supply := by
  unfold fieldWritten; split <;> simp

@[simp] theorem fieldWritten_alloc (f : Field) (s : State) : (fieldWritten f s).alloc = s.alloc := by
  unfold fieldWritten; split <;> simp

@[simp] theorem fieldWritten_lights (f : Field) (s : State) : (fieldWritten f s).lights = s.lights := by
  unfold fieldWritten; split <;> simp

@[simp] theorem fieldWritten_chassis (f : Field) (s : State) : (fieldWritten f s).chassis = s.chassis := by
  unfold fieldWritten; split <;> simp

/-! ### storeField -/

@[simp] theorem storeField_pending (f : Field) (v : Int) (s : State) : (storeField f v s).pending = s.pending := by
  unfold storeField; split <;> simp

@[simp] theorem storeField_powered (f : Field) (v : Int) (s : State) : (storeField f v s).powered = s.powered := by
  unfold storeField; split <;> simp

@[simp] theorem storeField_now (f : Field) (v : Int) (s : State) : (storeField f v s).now = s.now := by
  unfold storeField; split <;> simp

@[simp] theorem storeField_draws (f : Field) (v : Int) (s : State) : (storeField f v s).draws = s.draws := by
  unfold storeField; split <;> simp

@[simp] theorem storeField_disp (f : Field) (v : Int) (s : State) : (storeField f v s).disp = s.disp := by
  unfold storeField; split <;> simp

@[simp] theorem storeField_ports (f : Field) (v : Int) (s : State) : (storeField f v s).ports = s.ports := by
  unfold storeField; split <;> simp

@[simp] theorem storeField_drive (f : Field) (v : Int) (s : State) : (storeField f v s).drive = s.drive := by
  unfold storeField; split <;> simp

@[simp] theorem storeField_wheels (f : Field) (v : Int) (s : State) : (storeField f v s).wheels = s.wheels := by
  unfold storeField; split <;> simp

@[simp] theorem storeField_steer (f : Field) (v : Int) (s : State) : (storeField f v s).steer = s.steer := by
  unfold storeField; split <;> simp

@[simp] theorem storeField_winch (f : Field) (v : Int) (s : State) : (storeField f v s).winch = s.winch := by
  unfold storeField; split <;> simp

@[simp] theorem storeField_supply (f : Field) (v : Int) (s : State) : (storeField f v s).supply = s.supply := by
  unfold storeField; split <;> simp

@[simp] theorem storeField_alloc (f : Field) (v : Int) (s : State) : (storeField f v s).alloc = s.alloc := by
  unfold storeField; split <;> simp

@[simp] theorem storeField_lights (f : Field) (v : Int) (s : State) : (storeField f v s).lights = s.lights := by
  unfold storeField; split <;> simp

/-! ### restoredEffects -/

@[simp] theorem restoredEffects_pending (s : State) : (restoredEffects s).pending = s.pending := by
  unfold restoredEffects; simp

@[simp] theorem restoredEffects_powered (s : State) : (restoredEffects s).powered = s.powered := by
  unfold restoredEffects; simp

@[simp] theorem restoredEffects_now (s : State) : (restoredEffects s).now = s.now := by
  unfold restoredEffects; simp

@[simp] theorem restoredEffects_draws (s : State) : (restoredEffects s).draws = s.draws := by
  unfold restoredEffects; simp

@[simp] theorem restoredEffects_drive (s : State) : (restoredEffects s).drive = s.drive := by
  unfold restoredEffects; simp

@[simp] theorem restoredEffects_wheels (s : State) : (restoredEffects s).wheels = s.wheels := by
  unfold restoredEffects; simp

@[simp] theorem restoredEffects_supply (s : State) : (restoredEffects s).supply = s.supply := by
  unfold restoredEffects; simp

@[simp] theorem restoredEffects_alloc (s : State) : (restoredEffects s).alloc = s.alloc := by
  unfold restoredEffects; simp

@[simp] theorem restoredEffects_lights (s : State) : (restoredEffects s).lights = s.lights := by
  unfold restoredEffects; simp

@[simp] theorem restoredEffects_chassis (s : State) : (restoredEffects s).chassis = s.chassis := by
  unfold restoredEffects; simp

/-! ### commitComplete -/

@[simp] theorem commitComplete_pending (s : State) : (commitComplete s).pending = s.pending := by
  unfold commitComplete; split <;> simp

@[simp] theorem commitComplete_powered (s : State) : (commitComplete s).powered = s.powered := by
  unfold commitComplete; split <;> simp

@[simp] theorem commitComplete_now (s : State) : (commitComplete s).now = s.now := by
  unfold commitComplete; split <;> simp

@[simp] theorem commitComplete_draws (s : State) : (commitComplete s).draws = s.draws := by
  unfold commitComplete; split <;> simp

@[simp] theorem commitComplete_drive (s : State) : (commitComplete s).drive = s.drive := by
  unfold commitComplete; split <;> simp

@[simp] theorem commitComplete_wheels (s : State) : (commitComplete s).wheels = s.wheels := by
  unfold commitComplete; split <;> simp

@[simp] theorem commitComplete_steer (s : State) : (commitComplete s).steer = s.steer := by
  unfold commitComplete; split <;> simp

@[simp] theorem commitComplete_winch (s : State) : (commitComplete s).winch = s.winch := by
  unfold commitComplete; split <;> simp

@[simp] theorem commitComplete_supply (s : State) : (commitComplete s).supply = s.supply := by
  unfold commitComplete; split <;> simp

@[simp] theorem commitComplete_alloc (s : State) : (commitComplete s).alloc = s.alloc := by
  unfold commitComplete; split <;> simp

@[simp] theorem commitComplete_lights (s : State) : (commitComplete s).lights = s.lights := by
  unfold commitComplete; split <;> simp

/-! ### settlingEnd -/

@[simp] theorem settlingEnd_pending (s : State) : (settlingEnd s).pending = s.pending := by
  unfold settlingEnd; split <;> simp

@[simp] theorem settlingEnd_powered (s : State) : (settlingEnd s).powered = s.powered := by
  unfold settlingEnd; split <;> simp

@[simp] theorem settlingEnd_now (s : State) : (settlingEnd s).now = s.now := by
  unfold settlingEnd; split <;> simp

@[simp] theorem settlingEnd_draws (s : State) : (settlingEnd s).draws = s.draws := by
  unfold settlingEnd; split <;> simp

@[simp] theorem settlingEnd_disp (s : State) : (settlingEnd s).disp = s.disp := by
  unfold settlingEnd; split <;> simp

@[simp] theorem settlingEnd_ports (s : State) : (settlingEnd s).ports = s.ports := by
  unfold settlingEnd; split <;> simp

@[simp] theorem settlingEnd_drive (s : State) : (settlingEnd s).drive = s.drive := by
  unfold settlingEnd; split <;> simp

@[simp] theorem settlingEnd_wheels (s : State) : (settlingEnd s).wheels = s.wheels := by
  unfold settlingEnd; split <;> simp

@[simp] theorem settlingEnd_steer (s : State) : (settlingEnd s).steer = s.steer := by
  unfold settlingEnd; split <;> simp

@[simp] theorem settlingEnd_winch (s : State) : (settlingEnd s).winch = s.winch := by
  unfold settlingEnd; split <;> simp

@[simp] theorem settlingEnd_supply (s : State) : (settlingEnd s).supply = s.supply := by
  unfold settlingEnd; split <;> simp

@[simp] theorem settlingEnd_alloc (s : State) : (settlingEnd s).alloc = s.alloc := by
  unfold settlingEnd; split <;> simp

@[simp] theorem settlingEnd_lights (s : State) : (settlingEnd s).lights = s.lights := by
  unfold settlingEnd; split <;> simp

/-! ### restartWhenChanged -/

@[simp] theorem restartWhenChanged_pending (f : Field) (v : Int) (s : State) : (restartWhenChanged f v s).pending = s.pending := by
  unfold restartWhenChanged; split <;> simp

@[simp] theorem restartWhenChanged_powered (f : Field) (v : Int) (s : State) : (restartWhenChanged f v s).powered = s.powered := by
  unfold restartWhenChanged; split <;> simp

@[simp] theorem restartWhenChanged_now (f : Field) (v : Int) (s : State) : (restartWhenChanged f v s).now = s.now := by
  unfold restartWhenChanged; split <;> simp

@[simp] theorem restartWhenChanged_draws (f : Field) (v : Int) (s : State) : (restartWhenChanged f v s).draws = s.draws := by
  unfold restartWhenChanged; split <;> simp

@[simp] theorem restartWhenChanged_disp (f : Field) (v : Int) (s : State) : (restartWhenChanged f v s).disp = s.disp := by
  unfold restartWhenChanged; split <;> simp

@[simp] theorem restartWhenChanged_ports (f : Field) (v : Int) (s : State) : (restartWhenChanged f v s).ports = s.ports := by
  unfold restartWhenChanged; split <;> simp

@[simp] theorem restartWhenChanged_drive (f : Field) (v : Int) (s : State) : (restartWhenChanged f v s).drive = s.drive := by
  unfold restartWhenChanged; split <;> simp

@[simp] theorem restartWhenChanged_wheels (f : Field) (v : Int) (s : State) : (restartWhenChanged f v s).wheels = s.wheels := by
  unfold restartWhenChanged; split <;> simp

@[simp] theorem restartWhenChanged_steer (f : Field) (v : Int) (s : State) : (restartWhenChanged f v s).steer = s.steer := by
  unfold restartWhenChanged; split <;> simp

@[simp] theorem restartWhenChanged_winch (f : Field) (v : Int) (s : State) : (restartWhenChanged f v s).winch = s.winch := by
  unfold restartWhenChanged; split <;> simp

@[simp] theorem restartWhenChanged_supply (f : Field) (v : Int) (s : State) : (restartWhenChanged f v s).supply = s.supply := by
  unfold restartWhenChanged; split <;> simp

@[simp] theorem restartWhenChanged_alloc (f : Field) (v : Int) (s : State) : (restartWhenChanged f v s).alloc = s.alloc := by
  unfold restartWhenChanged; split <;> simp

@[simp] theorem restartWhenChanged_chassis (f : Field) (v : Int) (s : State) : (restartWhenChanged f v s).chassis = s.chassis := by
  unfold restartWhenChanged; split <;> simp

/-- What the write of a field does to the light engine: nothing where the value stays, else the mark of its source. -/
theorem restartWhenChanged_lights (f : Field) (v : Int) (s : State) :
    (restartWhenChanged f v s).lights =
      if s.chassis.profile.get f = v then s.lights else patternRewritten f s.lights := by
  unfold restartWhenChanged; split <;> simp

/-! ### postWhenChanged -/

@[simp] theorem postWhenChanged_pending (l : Link) (f : Field) (v : Int) (s : State) : (postWhenChanged l f v s).pending = s.pending := by
  unfold postWhenChanged; split <;> simp

@[simp] theorem postWhenChanged_powered (l : Link) (f : Field) (v : Int) (s : State) : (postWhenChanged l f v s).powered = s.powered := by
  unfold postWhenChanged; split <;> simp

@[simp] theorem postWhenChanged_now (l : Link) (f : Field) (v : Int) (s : State) : (postWhenChanged l f v s).now = s.now := by
  unfold postWhenChanged; split <;> simp

@[simp] theorem postWhenChanged_draws (l : Link) (f : Field) (v : Int) (s : State) : (postWhenChanged l f v s).draws = s.draws := by
  unfold postWhenChanged; split <;> simp

@[simp] theorem postWhenChanged_ports (l : Link) (f : Field) (v : Int) (s : State) : (postWhenChanged l f v s).ports = s.ports := by
  unfold postWhenChanged; split <;> simp

@[simp] theorem postWhenChanged_drive (l : Link) (f : Field) (v : Int) (s : State) : (postWhenChanged l f v s).drive = s.drive := by
  unfold postWhenChanged; split <;> simp

@[simp] theorem postWhenChanged_wheels (l : Link) (f : Field) (v : Int) (s : State) : (postWhenChanged l f v s).wheels = s.wheels := by
  unfold postWhenChanged; split <;> simp

@[simp] theorem postWhenChanged_steer (l : Link) (f : Field) (v : Int) (s : State) : (postWhenChanged l f v s).steer = s.steer := by
  unfold postWhenChanged; split <;> simp

@[simp] theorem postWhenChanged_winch (l : Link) (f : Field) (v : Int) (s : State) : (postWhenChanged l f v s).winch = s.winch := by
  unfold postWhenChanged; split <;> simp

@[simp] theorem postWhenChanged_supply (l : Link) (f : Field) (v : Int) (s : State) : (postWhenChanged l f v s).supply = s.supply := by
  unfold postWhenChanged; split <;> simp

@[simp] theorem postWhenChanged_alloc (l : Link) (f : Field) (v : Int) (s : State) : (postWhenChanged l f v s).alloc = s.alloc := by
  unfold postWhenChanged; split <;> simp

@[simp] theorem postWhenChanged_lights (l : Link) (f : Field) (v : Int) (s : State) : (postWhenChanged l f v s).lights = s.lights := by
  unfold postWhenChanged; split <;> simp

@[simp] theorem postWhenChanged_chassis (l : Link) (f : Field) (v : Int) (s : State) : (postWhenChanged l f v s).chassis = s.chassis := by
  unfold postWhenChanged; split <;> simp

/-! ### supersede -/

@[simp] theorem supersede_pending (s : State) : (supersede s).pending = s.pending := by
  unfold supersede; split <;> simp

@[simp] theorem supersede_powered (s : State) : (supersede s).powered = s.powered := by
  unfold supersede; split <;> simp

@[simp] theorem supersede_now (s : State) : (supersede s).now = s.now := by
  unfold supersede; split <;> simp

@[simp] theorem supersede_draws (s : State) : (supersede s).draws = s.draws := by
  unfold supersede; split <;> simp

@[simp] theorem supersede_drive (s : State) : (supersede s).drive = s.drive := by
  unfold supersede; split <;> simp

@[simp] theorem supersede_wheels (s : State) : (supersede s).wheels = s.wheels := by
  unfold supersede; split <;> simp

@[simp] theorem supersede_steer (s : State) : (supersede s).steer = s.steer := by
  unfold supersede; split <;> simp

@[simp] theorem supersede_winch (s : State) : (supersede s).winch = s.winch := by
  unfold supersede; split <;> simp

@[simp] theorem supersede_supply (s : State) : (supersede s).supply = s.supply := by
  unfold supersede; split <;> simp

@[simp] theorem supersede_alloc (s : State) : (supersede s).alloc = s.alloc := by
  unfold supersede; split <;> simp

@[simp] theorem supersede_chassis (s : State) : (supersede s).chassis = s.chassis := by
  unfold supersede; split <;> simp

/-! ### releaseLink -/

@[simp] theorem releaseLink_pending (l : Link) (s : State) : (releaseLink l s).pending = s.pending := by
  unfold releaseLink; split <;> simp

@[simp] theorem releaseLink_powered (l : Link) (s : State) : (releaseLink l s).powered = s.powered := by
  unfold releaseLink; split <;> simp

@[simp] theorem releaseLink_now (l : Link) (s : State) : (releaseLink l s).now = s.now := by
  unfold releaseLink; split <;> simp

@[simp] theorem releaseLink_draws (l : Link) (s : State) : (releaseLink l s).draws = s.draws := by
  unfold releaseLink; split <;> simp

@[simp] theorem releaseLink_steer (l : Link) (s : State) : (releaseLink l s).steer = s.steer := by
  unfold releaseLink; split <;> simp

@[simp] theorem releaseLink_supply (l : Link) (s : State) : (releaseLink l s).supply = s.supply := by
  unfold releaseLink; split <;> simp

@[simp] theorem releaseLink_alloc (l : Link) (s : State) : (releaseLink l s).alloc = s.alloc := by
  unfold releaseLink; split <;> simp

@[simp] theorem releaseLink_lights (l : Link) (s : State) : (releaseLink l s).lights = s.lights := by
  unfold releaseLink; split <;> simp

@[simp] theorem releaseLink_chassis (l : Link) (s : State) : (releaseLink l s).chassis = s.chassis := by
  unfold releaseLink; split <;> simp

/-! ### dropWinchOp -/

@[simp] theorem dropWinchOp_pending (l : Link) (s : State) : (dropWinchOp l s).pending = s.pending := by
  unfold dropWinchOp; split <;> simp

@[simp] theorem dropWinchOp_powered (l : Link) (s : State) : (dropWinchOp l s).powered = s.powered := by
  unfold dropWinchOp; split <;> simp

@[simp] theorem dropWinchOp_now (l : Link) (s : State) : (dropWinchOp l s).now = s.now := by
  unfold dropWinchOp; split <;> simp

@[simp] theorem dropWinchOp_draws (l : Link) (s : State) : (dropWinchOp l s).draws = s.draws := by
  unfold dropWinchOp; split <;> simp

@[simp] theorem dropWinchOp_ports (l : Link) (s : State) : (dropWinchOp l s).ports = s.ports := by
  unfold dropWinchOp; split <;> simp

@[simp] theorem dropWinchOp_drive (l : Link) (s : State) : (dropWinchOp l s).drive = s.drive := by
  unfold dropWinchOp; split <;> simp

@[simp] theorem dropWinchOp_wheels (l : Link) (s : State) : (dropWinchOp l s).wheels = s.wheels := by
  unfold dropWinchOp; split <;> simp

@[simp] theorem dropWinchOp_steer (l : Link) (s : State) : (dropWinchOp l s).steer = s.steer := by
  unfold dropWinchOp; split <;> simp

@[simp] theorem dropWinchOp_supply (l : Link) (s : State) : (dropWinchOp l s).supply = s.supply := by
  unfold dropWinchOp; split <;> simp

@[simp] theorem dropWinchOp_alloc (l : Link) (s : State) : (dropWinchOp l s).alloc = s.alloc := by
  unfold dropWinchOp; split <;> simp

@[simp] theorem dropWinchOp_lights (l : Link) (s : State) : (dropWinchOp l s).lights = s.lights := by
  unfold dropWinchOp; split <;> simp

@[simp] theorem dropWinchOp_chassis (l : Link) (s : State) : (dropWinchOp l s).chassis = s.chassis := by
  unfold dropWinchOp; split <;> simp

/-! ### dropLightsOp -/

@[simp] theorem dropLightsOp_pending (l : Link) (s : State) : (dropLightsOp l s).pending = s.pending := by
  unfold dropLightsOp; split <;> simp

@[simp] theorem dropLightsOp_powered (l : Link) (s : State) : (dropLightsOp l s).powered = s.powered := by
  unfold dropLightsOp; split <;> simp

@[simp] theorem dropLightsOp_now (l : Link) (s : State) : (dropLightsOp l s).now = s.now := by
  unfold dropLightsOp; split <;> simp

@[simp] theorem dropLightsOp_draws (l : Link) (s : State) : (dropLightsOp l s).draws = s.draws := by
  unfold dropLightsOp; split <;> simp

@[simp] theorem dropLightsOp_ports (l : Link) (s : State) : (dropLightsOp l s).ports = s.ports := by
  unfold dropLightsOp; split <;> simp

@[simp] theorem dropLightsOp_drive (l : Link) (s : State) : (dropLightsOp l s).drive = s.drive := by
  unfold dropLightsOp; split <;> simp

@[simp] theorem dropLightsOp_wheels (l : Link) (s : State) : (dropLightsOp l s).wheels = s.wheels := by
  unfold dropLightsOp; split <;> simp

@[simp] theorem dropLightsOp_steer (l : Link) (s : State) : (dropLightsOp l s).steer = s.steer := by
  unfold dropLightsOp; split <;> simp

@[simp] theorem dropLightsOp_winch (l : Link) (s : State) : (dropLightsOp l s).winch = s.winch := by
  unfold dropLightsOp; split <;> simp

@[simp] theorem dropLightsOp_supply (l : Link) (s : State) : (dropLightsOp l s).supply = s.supply := by
  unfold dropLightsOp; split <;> simp

@[simp] theorem dropLightsOp_alloc (l : Link) (s : State) : (dropLightsOp l s).alloc = s.alloc := by
  unfold dropLightsOp; split <;> simp

@[simp] theorem dropLightsOp_chassis (l : Link) (s : State) : (dropLightsOp l s).chassis = s.chassis := by
  unfold dropLightsOp; split <;> simp

/-! ### disownCommit -/

@[simp] theorem disownCommit_pending (l : Link) (s : State) : (disownCommit l s).pending = s.pending := by
  unfold disownCommit; split <;> simp

@[simp] theorem disownCommit_powered (l : Link) (s : State) : (disownCommit l s).powered = s.powered := by
  unfold disownCommit; split <;> simp

@[simp] theorem disownCommit_now (l : Link) (s : State) : (disownCommit l s).now = s.now := by
  unfold disownCommit; split <;> simp

@[simp] theorem disownCommit_draws (l : Link) (s : State) : (disownCommit l s).draws = s.draws := by
  unfold disownCommit; split <;> simp

@[simp] theorem disownCommit_ports (l : Link) (s : State) : (disownCommit l s).ports = s.ports := by
  unfold disownCommit; split <;> simp

@[simp] theorem disownCommit_drive (l : Link) (s : State) : (disownCommit l s).drive = s.drive := by
  unfold disownCommit; split <;> simp

@[simp] theorem disownCommit_wheels (l : Link) (s : State) : (disownCommit l s).wheels = s.wheels := by
  unfold disownCommit; split <;> simp

@[simp] theorem disownCommit_steer (l : Link) (s : State) : (disownCommit l s).steer = s.steer := by
  unfold disownCommit; split <;> simp

@[simp] theorem disownCommit_winch (l : Link) (s : State) : (disownCommit l s).winch = s.winch := by
  unfold disownCommit; split <;> simp

@[simp] theorem disownCommit_supply (l : Link) (s : State) : (disownCommit l s).supply = s.supply := by
  unfold disownCommit; split <;> simp

@[simp] theorem disownCommit_alloc (l : Link) (s : State) : (disownCommit l s).alloc = s.alloc := by
  unfold disownCommit; split <;> simp

@[simp] theorem disownCommit_lights (l : Link) (s : State) : (disownCommit l s).lights = s.lights := by
  unfold disownCommit; split <;> simp

@[simp] theorem disownCommit_chassis (l : Link) (s : State) : (disownCommit l s).chassis = s.chassis := by
  unfold disownCommit; split <;> simp

/-! ### linkResetAll -/

@[simp] theorem linkResetAll_pending (l : Link) (s : State) : (linkResetAll l s).pending = s.pending := by
  unfold linkResetAll; simp

@[simp] theorem linkResetAll_powered (l : Link) (s : State) : (linkResetAll l s).powered = s.powered := by
  unfold linkResetAll; simp

@[simp] theorem linkResetAll_now (l : Link) (s : State) : (linkResetAll l s).now = s.now := by
  unfold linkResetAll; simp

@[simp] theorem linkResetAll_draws (l : Link) (s : State) : (linkResetAll l s).draws = s.draws := by
  unfold linkResetAll; simp

@[simp] theorem linkResetAll_steer (l : Link) (s : State) : (linkResetAll l s).steer = s.steer := by
  unfold linkResetAll; simp

@[simp] theorem linkResetAll_supply (l : Link) (s : State) : (linkResetAll l s).supply = s.supply := by
  unfold linkResetAll; simp

@[simp] theorem linkResetAll_alloc (l : Link) (s : State) : (linkResetAll l s).alloc = s.alloc := by
  unfold linkResetAll; simp

@[simp] theorem linkResetAll_chassis (l : Link) (s : State) : (linkResetAll l s).chassis = s.chassis := by
  unfold linkResetAll; simp

/-! ### chassisResetAll -/

@[simp] theorem chassisResetAll_pending (s : State) : (chassisResetAll s).pending = s.pending := by
  unfold chassisResetAll; simp

@[simp] theorem chassisResetAll_powered (s : State) : (chassisResetAll s).powered = s.powered := by
  unfold chassisResetAll; simp

@[simp] theorem chassisResetAll_now (s : State) : (chassisResetAll s).now = s.now := by
  unfold chassisResetAll; simp

@[simp] theorem chassisResetAll_draws (s : State) : (chassisResetAll s).draws = s.draws := by
  unfold chassisResetAll; simp

@[simp] theorem chassisResetAll_supply (s : State) : (chassisResetAll s).supply = s.supply := by
  unfold chassisResetAll; simp

/-! ### markCommander -/

@[simp] theorem markCommander_pending (l : Link) (n : CmdName) (s : State) : (markCommander l n s).pending = s.pending := by
  unfold markCommander; split <;> simp

@[simp] theorem markCommander_powered (l : Link) (n : CmdName) (s : State) : (markCommander l n s).powered = s.powered := by
  unfold markCommander; split <;> simp

@[simp] theorem markCommander_now (l : Link) (n : CmdName) (s : State) : (markCommander l n s).now = s.now := by
  unfold markCommander; split <;> simp

@[simp] theorem markCommander_draws (l : Link) (n : CmdName) (s : State) : (markCommander l n s).draws = s.draws := by
  unfold markCommander; split <;> simp

@[simp] theorem markCommander_ports (l : Link) (n : CmdName) (s : State) : (markCommander l n s).ports = s.ports := by
  unfold markCommander; split <;> simp

@[simp] theorem markCommander_drive (l : Link) (n : CmdName) (s : State) : (markCommander l n s).drive = s.drive := by
  unfold markCommander; split <;> simp

@[simp] theorem markCommander_wheels (l : Link) (n : CmdName) (s : State) : (markCommander l n s).wheels = s.wheels := by
  unfold markCommander; split <;> simp

@[simp] theorem markCommander_steer (l : Link) (n : CmdName) (s : State) : (markCommander l n s).steer = s.steer := by
  unfold markCommander; split <;> simp

@[simp] theorem markCommander_winch (l : Link) (n : CmdName) (s : State) : (markCommander l n s).winch = s.winch := by
  unfold markCommander; split <;> simp

@[simp] theorem markCommander_supply (l : Link) (n : CmdName) (s : State) : (markCommander l n s).supply = s.supply := by
  unfold markCommander; split <;> simp

@[simp] theorem markCommander_alloc (l : Link) (n : CmdName) (s : State) : (markCommander l n s).alloc = s.alloc := by
  unfold markCommander; split <;> simp

@[simp] theorem markCommander_lights (l : Link) (n : CmdName) (s : State) : (markCommander l n s).lights = s.lights := by
  unfold markCommander; split <;> simp

@[simp] theorem markCommander_chassis (l : Link) (n : CmdName) (s : State) : (markCommander l n s).chassis = s.chassis := by
  unfold markCommander; split <;> simp

/-! ### fillOp -/

@[simp] theorem fillOp_pending (l : Link) (n : CmdName) (k : LongKind) (t : Byte) (s : State) : (fillOp l n k t s).pending = s.pending := by
  unfold fillOp; split <;> simp

@[simp] theorem fillOp_powered (l : Link) (n : CmdName) (k : LongKind) (t : Byte) (s : State) : (fillOp l n k t s).powered = s.powered := by
  unfold fillOp; split <;> simp

@[simp] theorem fillOp_now (l : Link) (n : CmdName) (k : LongKind) (t : Byte) (s : State) : (fillOp l n k t s).now = s.now := by
  unfold fillOp; split <;> simp

@[simp] theorem fillOp_draws (l : Link) (n : CmdName) (k : LongKind) (t : Byte) (s : State) : (fillOp l n k t s).draws = s.draws := by
  unfold fillOp; split <;> simp

@[simp] theorem fillOp_ports (l : Link) (n : CmdName) (k : LongKind) (t : Byte) (s : State) : (fillOp l n k t s).ports = s.ports := by
  unfold fillOp; split <;> simp

@[simp] theorem fillOp_drive (l : Link) (n : CmdName) (k : LongKind) (t : Byte) (s : State) : (fillOp l n k t s).drive = s.drive := by
  unfold fillOp; split <;> simp

@[simp] theorem fillOp_wheels (l : Link) (n : CmdName) (k : LongKind) (t : Byte) (s : State) : (fillOp l n k t s).wheels = s.wheels := by
  unfold fillOp; split <;> simp

@[simp] theorem fillOp_steer (l : Link) (n : CmdName) (k : LongKind) (t : Byte) (s : State) : (fillOp l n k t s).steer = s.steer := by
  unfold fillOp; split <;> simp

@[simp] theorem fillOp_winch (l : Link) (n : CmdName) (k : LongKind) (t : Byte) (s : State) : (fillOp l n k t s).winch = s.winch := by
  unfold fillOp; split <;> simp

@[simp] theorem fillOp_supply (l : Link) (n : CmdName) (k : LongKind) (t : Byte) (s : State) : (fillOp l n k t s).supply = s.supply := by
  unfold fillOp; split <;> simp

@[simp] theorem fillOp_alloc (l : Link) (n : CmdName) (k : LongKind) (t : Byte) (s : State) : (fillOp l n k t s).alloc = s.alloc := by
  unfold fillOp; split <;> simp

@[simp] theorem fillOp_lights (l : Link) (n : CmdName) (k : LongKind) (t : Byte) (s : State) : (fillOp l n k t s).lights = s.lights := by
  unfold fillOp; split <;> simp

@[simp] theorem fillOp_chassis (l : Link) (n : CmdName) (k : LongKind) (t : Byte) (s : State) : (fillOp l n k t s).chassis = s.chassis := by
  unfold fillOp; split <;> simp

/-! ### takeThrottle -/

@[simp] theorem takeThrottle_pending (t : Int) (s : State) : (takeThrottle t s).pending = s.pending := by
  unfold takeThrottle; split <;> simp [setDrive]

@[simp] theorem takeThrottle_powered (t : Int) (s : State) : (takeThrottle t s).powered = s.powered := by
  unfold takeThrottle; split <;> simp [setDrive]

@[simp] theorem takeThrottle_now (t : Int) (s : State) : (takeThrottle t s).now = s.now := by
  unfold takeThrottle; split <;> simp [setDrive]

@[simp] theorem takeThrottle_draws (t : Int) (s : State) : (takeThrottle t s).draws = s.draws := by
  unfold takeThrottle; split <;> simp [setDrive]

@[simp] theorem takeThrottle_disp (t : Int) (s : State) : (takeThrottle t s).disp = s.disp := by
  unfold takeThrottle; split <;> simp [setDrive]

@[simp] theorem takeThrottle_steer (t : Int) (s : State) : (takeThrottle t s).steer = s.steer := by
  unfold takeThrottle; split <;> simp [setDrive]

@[simp] theorem takeThrottle_winch (t : Int) (s : State) : (takeThrottle t s).winch = s.winch := by
  unfold takeThrottle; split <;> simp [setDrive]

@[simp] theorem takeThrottle_supply (t : Int) (s : State) : (takeThrottle t s).supply = s.supply := by
  unfold takeThrottle; split <;> simp [setDrive]

@[simp] theorem takeThrottle_alloc (t : Int) (s : State) : (takeThrottle t s).alloc = s.alloc := by
  unfold takeThrottle; split <;> simp [setDrive]

@[simp] theorem takeThrottle_lights (t : Int) (s : State) : (takeThrottle t s).lights = s.lights := by
  unfold takeThrottle; split <;> simp [setDrive]

@[simp] theorem takeThrottle_chassis (t : Int) (s : State) : (takeThrottle t s).chassis = s.chassis := by
  unfold takeThrottle; split <;> simp [setDrive]

end Sys2Proof.Machine
end

