-- ==== Sys2Proof/Laws/Dispatcher.lean ====
section
/-! SUPPORT. What a command row does, once: its frame's arrival, each step of the screening, and the answer of an admitted command. A proof about a command starts from `exec_admitted` and unfolds the command's body alone. -/

set_option Elab.async false

namespace Sys2Proof.Machine

/-! ## A command row is the arrival of its frame -/

theorem exec_of_frame {i : Instr} {l : Link} {c : Command} (h : instrFrame i = some (l, c)) (s : State) :
    exec i s = event (arrive l c) s := by
  cases i <;> simp only [instrFrame, Option.some.injEq, Prod.mk.injEq, reduceCtorEq] at h <;>
    (obtain ⟨rfl, rfl⟩ := h; rfl)

theorem event_powered {f : State → State} {s : State} (h : s.powered = true) : event f s = .next (arbitrate (f s)) := by
  simp [event, h]

theorem event_unpowered {f : State → State} {s : State} (h : s.powered = false) : event f s = .next s := by
  simp [event, h]

/-- The code of a command names the command (R165). -/
@[simp] theorem CmdName.ofCode_code (n : CmdName) : CmdName.ofCode n.row.code = some n := by
  cases n <;> decide

theorem CmdName.code_injective {n m : CmdName} (h : n.row.code = m.row.code) : n = m := by
  have := CmdName.ofCode_code n
  rw [h, CmdName.ofCode_code] at this
  exact (Option.some.inj this).symm

theorem CmdName.code_of_ofCode {b : Byte} {n : CmdName} (h : CmdName.ofCode b = some n) : n.row.code = b := by
  unfold CmdName.ofCode at h
  have := List.find?_some h
  simpa using this

/-! ## The slot -/

theorem goodFrame_slot (l : Link) (s : State) : ((goodFrame l s).ports.get l).slot = (s.ports.get l).slot := by
  simp [goodFrame]

/-- A command that finds the slot empty is screened in the state in which it is taken (R163, R164). -/
theorem arrive_free {l : Link} {c : Command} {s : State} (h : (s.ports.get l).slot = none) :
    arrive l c s = placeStatus l c.tag (screen l c (taken l c s)) := by
  have h' := (goodFrame_slot l s).trans h
  simp only [arrive, h', take]
  simp [goodFrame, taken, setPort]

/-- A command that finds the slot occupied is lost (R164). -/
theorem arrive_full {l : Link} {c : Command} {s : State} (h : (s.ports.get l).slot.isSome = true) :
    arrive l c s = setPort l { (goodFrame l s).ports.get l with framesLost := true } (goodFrame l s) := by
  obtain ⟨x, hx⟩ := Option.isSome_iff_exists.mp h
  have h' := (goodFrame_slot l s).trans hx
  simp [arrive, h']

/-! ## What taking a command leaves alone -/

@[simp] theorem taken_disp (l : Link) (c : Command) (s : State) : (taken l c s).disp = s.disp := rfl
@[simp] theorem taken_drive (l : Link) (c : Command) (s : State) : (taken l c s).drive = s.drive := rfl
@[simp] theorem taken_wheels (l : Link) (c : Command) (s : State) : (taken l c s).wheels = s.wheels := rfl
@[simp] theorem taken_steer (l : Link) (c : Command) (s : State) : (taken l c s).steer = s.steer := rfl
@[simp] theorem taken_winch (l : Link) (c : Command) (s : State) : (taken l c s).winch = s.winch := rfl
@[simp] theorem taken_supply (l : Link) (c : Command) (s : State) : (taken l c s).supply = s.supply := rfl
@[simp] theorem taken_alloc (l : Link) (c : Command) (s : State) : (taken l c s).alloc = s.alloc := rfl
@[simp] theorem taken_lights (l : Link) (c : Command) (s : State) : (taken l c s).lights = s.lights := rfl
@[simp] theorem taken_chassis (l : Link) (c : Command) (s : State) : (taken l c s).chassis = s.chassis := rfl
@[simp] theorem taken_pending (l : Link) (c : Command) (s : State) : (taken l c s).pending = s.pending := rfl
@[simp] theorem taken_powered (l : Link) (c : Command) (s : State) : (taken l c s).powered = s.powered := rfl
@[simp] theorem taken_now (l : Link) (c : Command) (s : State) : (taken l c s).now = s.now := rfl
@[simp] theorem taken_draws (l : Link) (c : Command) (s : State) : (taken l c s).draws = s.draws := rfl

theorem taken_get_other {l m : Link} (c : Command) (s : State) (h : m ≠ l) :
    (taken l c s).ports.get m = s.ports.get m :=
  PerLink.get_set_other _ _ h

@[simp] theorem heldByAnother_taken (l m : Link) (n : CmdName) (c : Command) (s : State) :
    heldByAnother l n (taken m c s) = heldByAnother l n s := rfl

@[simp] theorem busy_taken (m : Link) (n : CmdName) (c d : Command) (s : State) :
    busy n c (taken m d s) = busy n c s := rfl

@[simp] theorem tagClash_taken (l m : Link) (n : CmdName) (c d : Command) (s : State) :
    tagClash l n c (taken m d s) = tagClash l n c s := rfl

@[simp] theorem attentionDue_taken (l m : Link) (c d : Command) (s : State) :
    attentionDue l c (taken m d s) = attentionDue l c s := rfl

/-! ## The steps of the screening -/

theorem screen_attend {l : Link} {c : Command} {k : Attention} {s : State} (h : attentionDue l c s = some k) :
    screen l c s = attend l c k s := by
  simp [screen, h]

theorem screen_invalid {l : Link} {c : Command} {d : IllegalDetail} {s : State} (ha : attentionDue l c s = none)
    (hv : validity c = .error d) : screen l c s = refuse l c .check (.illegal d) none s := by
  simp [screen, ha, hv]

theorem screen_held {l : Link} {c : Command} {n : CmdName} {s : State} (ha : attentionDue l c s = none)
    (hv : validity c = .ok n) (hh : heldByAnother l n s = true) : screen l c s = ⟨.conflict, [], s⟩ := by
  simp [screen, ha, hv, hh]

theorem screen_busy {l : Link} {c : Command} {n : CmdName} {s : State} (ha : attentionDue l c s = none)
    (hv : validity c = .ok n) (hh : heldByAnother l n s = false) (hb : busy n c s = true) :
    screen l c s = ⟨.busy, [], s⟩ := by
  simp [screen, ha, hv, hh, hb]

theorem screen_clash {l : Link} {c : Command} {n : CmdName} {s : State} (ha : attentionDue l c s = none)
    (hv : validity c = .ok n) (hh : heldByAnother l n s = false) (hb : busy n c s = false)
    (ht : tagClash l n c s = true) : screen l c s = refuse l c .check .cancelled none s := by
  simp [screen, ha, hv, hh, hb, execute, ht]

theorem screen_run {l : Link} {c : Command} {n : CmdName} {s : State} (ha : attentionDue l c s = none)
    (hv : validity c = .ok n) (hh : heldByAnother l n s = false) (hb : busy n c s = false)
    (ht : tagClash l n c s = false) : screen l c s = settle l n c s (runBody n l c s) := by
  simp [screen, ha, hv, hh, hb, execute, ht]

theorem validity_ok {c : Command} {n : CmdName} (hc : CmdName.ofCode c.code = some n) (hu : unitFits n c.unit = true)
    (hb : blockFits n c.params = true) : validity c = .ok n := by
  simp [validity, hc, hu, hb]

theorem attentionDue_none {n : CmdName} {l : Link} {tag unit : Byte} {block : List Byte} {s : State}
    (h : attentionClear n l s = true) : attentionDue l ⟨tag, unit, n.row.code, block⟩ s = none := by
  simp only [attentionClear, Bool.or_eq_true, decide_eq_true_eq] at h
  simp only [attentionDue, attentionExempt]
  rcases h with (h | rfl) | rfl
  · rw [List.isEmpty_iff] at h
    simp [h]
  · simp
  · simp

/-! ## The answer of an admitted command -/

/-- The parts of `admitted` (R3 to R8). -/
theorem admitted_parts {n : CmdName} {l : Link} {tag unit : Byte} {block : List Byte} {s : State}
    (h : admitted n l tag unit block s = true) :
    s.powered = true ∧ (s.ports.get l).slot = none ∧
      attentionDue l ⟨tag, unit, n.row.code, block⟩ s = none ∧
      validity ⟨tag, unit, n.row.code, block⟩ = .ok n ∧ heldByAnother l n s = false ∧
      busy n ⟨tag, unit, n.row.code, block⟩ s = false ∧ tagClash l n ⟨tag, unit, n.row.code, block⟩ s = false := by
  simp only [admitted, slotFree, Bool.and_eq_true, Bool.not_eq_true', Option.isNone_iff_eq_none] at h
  obtain ⟨⟨⟨⟨⟨⟨⟨hp, hs⟩, ha⟩, hu⟩, hb⟩, hh⟩, hy⟩, ht⟩ := h
  exact ⟨hp, hs, attentionDue_none ha, validity_ok (CmdName.ofCode_code n) hu hb, hh, hy, ht⟩

/-- A command that is taken is answered by its screening (R3, R163, R164, R167). -/
theorem exec_taken {i : Instr} {l : Link} {c : Command} {s : State} (hi : instrFrame i = some (l, c))
    (hs : slotFree l s = true) :
    exec i s = .next (arbitrate (placeStatus l c.tag (screen l c (taken l c s)))) := by
  simp only [slotFree, Bool.and_eq_true, Option.isNone_iff_eq_none] at hs
  rw [exec_of_frame hi, event_powered hs.1, arrive_free hs.2]

/-- An admitted command is answered by its unit's execution, in the state in which it is taken (R8). -/
theorem exec_admitted {i : Instr} {n : CmdName} {l : Link} {tag unit : Byte} {block : List Byte} {s : State}
    (hi : instrFrame i = some (l, ⟨tag, unit, n.row.code, block⟩)) (h : admitted n l tag unit block s = true) :
    let c : Command := ⟨tag, unit, n.row.code, block⟩
    exec i s = .next (arbitrate (placeStatus l tag
      (settle l n c (taken l c s) (runBody n l c (taken l c s))))) := by
  obtain ⟨hp, hs, ha, hv, hh, hb, ht⟩ := admitted_parts h
  intro c
  rw [exec_of_frame hi, event_powered hp, arrive_free hs, screen_run (n := n) (s := taken l _ s) ha hv hh hb ht]

/-! ## What an answer changes -/

/-- A placed status is the only change of `placeStatus` (R167). -/
theorem placeStatus_get (l m : Link) (tag : Byte) (a : Answer) :
    (placeStatus l tag a).ports.get m =
      if m = l then { a.st.ports.get l with status := some ⟨tag, a.code, a.reply⟩ } else a.st.ports.get m := by
  simp [placeStatus, setPort, PerLink.get_set]

/-- A refusal writes the sense record and nothing else (R14). -/
theorem refuse_st (l : Link) (c : Command) (code : StatusCode) (r : Reason) (v : Option Int) (s : State) :
    (refuse l c code r v s).st = senseWritten l r c.unit c.tag v s := rfl

/-- What an execution's answer is, by its outcome (R8, R12, R17). -/
theorem settle_cases (l : Link) (n : CmdName) (c : Command) (s : State) (e : Exec) :
    (∃ reply t, e = .good reply t ∧ settle l n c s e = ⟨.good, reply, markCommander l n t⟩) ∨
      (∃ k reply t, e = .accepted k reply t ∧
        settle l n c s e = ⟨.accepted, reply, markCommander l n (fillOp l n k c.tag t)⟩) ∨
      (∃ r v, e = .check r v ∧ settle l n c s e = refuse l c .check r v s) ∨
      (e = .conflict ∧ settle l n c s e = ⟨.conflict, [], s⟩) := by
  cases e with
  | good reply t => exact .inl ⟨reply, t, rfl, rfl⟩
  | accepted k reply t => exact .inr (.inl ⟨k, reply, t, rfl, rfl⟩)
  | check r v => exact .inr (.inr (.inl ⟨r, v, rfl, rfl⟩))
  | conflict => exact .inr (.inr (.inr ⟨rfl, rfl⟩))

end Sys2Proof.Machine
end

