-- ==== Sys2Proof/Laws/Fields.lean ====
section
/-! SUPPORT. The arithmetic of clamps and the profile's fields: what a read gives after a write, and that a clamped value lies in its field's range. -/

set_option Elab.async false

namespace Sys2Proof.Machine

/-! ## Clamps -/

theorem clampInt_le {lo hi x : Int} (h : lo ≤ hi) : clampInt lo hi x ≤ hi := by
  unfold clampInt
  split
  · exact h
  · split <;> omega

theorem le_clampInt {lo hi x : Int} (h : lo ≤ hi) : lo ≤ clampInt lo hi x := by
  unfold clampInt
  split
  · exact Int.le_refl lo
  · split <;> omega

theorem clampInt_of_mem {lo hi x : Int} (h : lo ≤ x) (k : x ≤ hi) : clampInt lo hi x = x := by
  unfold clampInt
  rw [if_neg (by omega), if_neg (by omega)]

theorem clampInt_idem {lo hi x : Int} (h : lo ≤ hi) : clampInt lo hi (clampInt lo hi x) = clampInt lo hi x :=
  clampInt_of_mem (le_clampInt h) (clampInt_le h)

theorem clampNat_le {lo hi x : Nat} (h : lo ≤ hi) : clampNat lo hi x ≤ hi := by
  unfold clampNat
  split
  · exact h
  · split <;> omega

theorem le_clampNat {lo hi x : Nat} (h : lo ≤ hi) : lo ≤ clampNat lo hi x := by
  unfold clampNat
  split
  · exact Nat.le_refl lo
  · split <;> omega

theorem mag_nonneg (x : Int) : 0 ≤ mag x := by
  unfold mag
  split <;> omega

theorem mag_neg (x : Int) : mag (-x) = mag x := by
  unfold mag
  split <;> split <;> omega

/-- Rounding is odd: halves go away from zero on both sides. -/
theorem roundDiv_neg (a : Int) {b : Int} (h : 0 < b) : roundDiv (-a) b = -roundDiv a b := by
  have zero : (2 * (0 : Int) + b) / (2 * b) = 0 := Int.ediv_eq_zero_of_lt (by omega) (by omega)
  rcases Int.lt_trichotomy a 0 with ha | rfl | ha
  · simp only [roundDiv, if_pos ha]
    rw [if_neg (by omega)]
    simp
  · simp only [roundDiv, Int.neg_zero, Int.mul_zero, Int.zero_add] at zero ⊢
    simp [zero]
  · simp only [roundDiv]
    rw [if_pos (by omega), if_neg (by omega)]
    simp

/-! ## The fields -/

/-- The field at its place in the list of fields. -/
theorem allFields_index (f : Field) : allFields[f.index.val]? = some f := by
  cases f with
  | channelCurrent c => fin_cases c <;> rfl
  | silenceTimeout l => cases l <;> rfl
  | _ => rfl

/-- Different fields stand at different places. -/
theorem Field.index_injective {f g : Field} (h : f.index = g.index) : f = g := by
  have hf := allFields_index f
  rw [h, allFields_index g] at hf
  exact (Option.some.inj hf).symm

@[simp] theorem Profile.get_set_same (p : Profile) (f : Field) (v : Int) : (p.set f v).get f = v := by
  simp [Profile.get, Profile.set]

theorem Profile.get_set_other (p : Profile) {f g : Field} (v : Int) (h : g ≠ f) : (p.set f v).get g = p.get g := by
  have hi : f.index.val ≠ g.index.val := fun e => h (Field.index_injective (Fin.ext e)).symm
  simp [Profile.get, Profile.set, hi]

theorem Profile.get_set (p : Profile) (f g : Field) (v : Int) :
    (p.set f v).get g = if g = f then v else p.get g := by
  by_cases h : g = f
  · subst h
    simp
  · rw [if_neg h, p.get_set_other v h]

/-- Writing the value a field holds changes nothing. -/
theorem Profile.set_get (p : Profile) (f : Field) : p.set f (p.get f) = p := by
  cases p
  simp [Profile.get, Profile.set]

/-- Every field stands in the list of fields. -/
theorem mem_allFields (f : Field) : f ∈ allFields := by
  cases f <;> simp [allFields]
  rename_i l
  cases l <;> simp

theorem Field.number_of_ofNumber {n : Nat} {f : Field} (h : Field.ofNumber n = some f) : f.row.number = n := by
  unfold Field.ofNumber at h
  simpa using List.find?_some h

/-- The range of every field is not empty. -/
theorem Field.low_le_high (f : Field) : f.row.low ≤ f.row.high := by
  cases f with
  | silenceTimeout l => cases l <;> simp [Field.row]
  | _ => simp [Field.row]

/-- A clamped value lies in its field's range (R172, R175, R177). -/
theorem clampField_fits (f : Field) (v : Int) : fieldFits f (clampField f v) = true := by
  have general : ∀ g : Field, (∀ l, g ≠ .silenceTimeout l) → fieldFits g (clampField g v) = true := by
    intro g hg
    have h1 : fieldFits g (clampField g v) =
        (decide (g.row.low ≤ clampInt g.row.low g.row.high v) && decide (clampInt g.row.low g.row.high v ≤ g.row.high)) := by
      cases g <;> first | rfl | exact absurd rfl (hg _)
    rw [h1]
    simp [le_clampInt g.low_le_high, clampInt_le g.low_le_high]
  by_cases h : ∃ l, f = .silenceTimeout l
  · obtain ⟨l, rfl⟩ := h
    simp only [clampField, fieldFits]
    split
    · simp
    · split
      · simp
      · split
        · simp
        · simp
          omega
  · exact general f fun l e => h ⟨l, e⟩

/-- The profile's fields after a write within range, one by one. -/
theorem profile_fields_fit_set {p : Profile} {f : Field} {v : Int} (hv : fieldFits f v = true)
    (hp : ∀ g, fieldFits g (p.get g) = true) (g : Field) : fieldFits g ((p.set f v).get g) = true := by
  rw [Profile.get_set]
  split
  · rename_i h
    rw [h]
    exact hv
  · exact hp g

/-- The parts of `profileFits` (R175, R178). -/
theorem profileFits_iff (p : Profile) : profileFits p = true ↔
    (∀ f, fieldFits f (p.get f) = true) ∧ thresholdsOrdered p = true ∧ lightsOrdered p = true ∧
      currentsOrdered p = true ∧ frontOrdered p = true ∧ rearOrdered p = true := by
  simp only [profileFits, Bool.and_eq_true, List.all_eq_true]
  constructor
  · rintro ⟨⟨⟨⟨⟨h, a⟩, b⟩, c⟩, d⟩, e⟩
    exact ⟨fun f => h f (mem_allFields f), a, b, c, d, e⟩
  · rintro ⟨h, a, b, c, d, e⟩
    exact ⟨⟨⟨⟨⟨fun f _ => h f, a⟩, b⟩, c⟩, d⟩, e⟩

end Sys2Proof.Machine
end

