-- ==== Sys2Proof/Laws/Lights.lean ====
section
/-! SUPPORT. The pattern store and table: what a read of a frame, a channel or a record gives after a write, and the bounds of a channel value. -/

set_option Elab.async false

namespace Sys2Proof.Machine

/-! ## Frames (R136) -/

/-- The written frame reads as written. -/
theorem frame_writeFrame_same (l : Link) {index : Nat} (more : Bool) (values : Frame) (x : Lights) (h : index < 64) :
    (writeFrame l index more values x).frame index = values := by
  simp [Lights.frame, writeFrame, h]

/-- Every other frame reads as before. -/
theorem frame_writeFrame_other (l : Link) {index n : Nat} (more : Bool) (values : Frame) (x : Lights) (h : n ≠ index) :
    (writeFrame l index more values x).frame n = x.frame n := by
  simp [Lights.frame, writeFrame, Ne.symm h]

/-- A channel of a frame built from a function of the channel. -/
theorem frameFrom_get (block : List Byte) (c : Fin 24) : (frameFrom block)[c] = byteAt block (2 + c.val) := by
  simp [frameFrom]

/-- A byte's value is at most 255. -/
theorem frameValue_le (f : Frame) (ch : Nat) : frameValue f ch ≤ 255 := by
  unfold frameValue
  have := ((f[ch]?).getD 0xFF#8).isLt
  omega

/-! ## Records (R139) -/

theorem record_setRecord_same {n : Nat} (r : Record) (x : Lights) (h : n < 16) : (setRecord n r x).record n = r := by
  simp [Lights.record, setRecord, h]

theorem record_setRecord_other {n m : Nat} (r : Record) (x : Lights) (h : m ≠ n) :
    (setRecord n r x).record m = x.record m := by
  simp [Lights.record, setRecord, Ne.symm h]

/-- A write leaves every record's definition alone (R137). -/
theorem defn_writeFrame (l : Link) (index : Nat) (more : Bool) (values : Frame) (x : Lights) (n : Nat) :
    (writeFrame l index more values x).defn n = x.defn n := by
  by_cases h : n < 16
  · simp [Lights.defn, Lights.record, writeFrame, mapOpen, h]
  · simp [Lights.defn, Lights.record, writeFrame, mapOpen, h]

/-- Closing a link's patterns leaves the definitions, the store and everything else of the engine alone (R138). -/
theorem closeLink_record (l : Link) (x : Lights) {n : Nat} (h : n < 16) :
    (closeLink l x).record n = { x.record n with
      openBy := if (x.record n).openBy = some l then none else (x.record n).openBy } := by
  simp [Lights.record, closeLink, mapOpen, h]

/-! ## Values and playbacks (R140, R142) -/

theorem patternValue_le (x : Lights) (n : Nat) (y : Playback) (ch : Nat) : patternValue x n y ch ≤ 255 := by
  by_cases h : (x.defn n).defined = true
  · simp only [patternValue, h, if_true]
    exact frameValue_le _ _
  · simp [patternValue, h, passValue]

/-- A source whose level is an intensity gives intensities: a PASS of a pattern counts as 0 (R142). -/
theorem Live.value_le (x : Lights) (v : Live) (ch : Nat) (h : sourceFits v.source = true) : v.value x ch ≤ 254 := by
  unfold Live.value
  cases hs : v.source with
  | pattern n =>
    have := patternValue_le x n v.play ch
    by_cases hv : patternValue x n v.play ch = passValue
    · simp [hv]
    · simp only [if_neg hv]
      simp only [passValue] at hv
      omega
  | level y =>
    rw [hs] at h
    simpa [sourceFits] using h

/-- A started source is the source asked for. -/
@[simp] theorem Live.start_source (x : Lights) (src : Source) (step : Nat) (fresh : Bool) :
    (Live.start x src step fresh).source = src := by
  cases src <;> rfl

/-- Advancing keeps the source. -/
@[simp] theorem Live.advance_source (x : Lights) (v : Live) : (v.advance x).1.source = v.source := by
  unfold Live.advance
  split
  · exact Live.start_source ..
  · split <;> rfl

/-- A source started at step 1 of a boundary is not advanced at its step 2: the start only becomes final there, since
no record changes between (R140, R145). -/
@[simp] theorem Live.advance_start (x : Lights) (src : Source) (step : Nat) :
    ((Live.start x src step true).advance x).1 = Live.start x src step false := by
  cases src with
  | pattern n => simp [Live.start, Live.advance, Playback.start]
  | level v => rfl

/-- The start of a fresh source is no end of a countdown. -/
@[simp] theorem Live.advance_start_snd (x : Lights) (src : Source) (step : Nat) :
    ((Live.start x src step true).advance x).2 = false := by
  cases src <;> rfl

/-- A dimmed value does not exceed the value (R155). -/
theorem dimmed_le (v g : Nat) (h : g ≤ 1024) : (v * g + 512) / 1024 ≤ v := by
  have : v * g ≤ v * 1024 := Nat.mul_le_mul_left v h
  omega

/-! ## Pattern fields written (R156) -/

/-- All that a changed pattern field can do: marks set in the sources and in the ALERT layer. -/
theorem patternRewritten_eq (f : Field) (x : Lights) :
    patternRewritten f x = { x with
      indicator := { x.indicator with rewritten := x.indicator.rewritten || decide (f = .indicatorPattern) }
      brake := { x.brake with rewritten := x.brake.rewritten || decide (f = .brakePattern) }
      reverse := { x.reverse with rewritten := x.reverse.rewritten || decide (f = .reversePattern) }
      alert := { x.alert with
        rewritten := x.alert.rewritten || decide (x.alert.selected.map Alert.field = some f) } } := by
  have h (a : Option Alert) : a.map Alert.field ≠ some .indicatorPattern ∧ a.map Alert.field ≠ some .brakePattern ∧
      a.map Alert.field ≠ some .reversePattern := by
    rcases a with _ | a
    · simp
    · cases a <;> simp [Alert.field]
  unfold patternRewritten
  split
  · simp [h]
  · simp [h]
  · simp [h]
  · next h1 h2 h3 =>
    have e1 : ¬f = .indicatorPattern := h1
    have e2 : ¬f = .brakePattern := h2
    have e3 : ¬f = .reversePattern := h3
    split <;> simp [*]

/-- A new profile marks what its changed pattern fields mark, one by one, and nothing else. -/
theorem patternsReplaced_induct {P : Lights → Prop} (old new : Profile) {x : Lights} (h0 : P x)
    (h : ∀ f y, P y → P (patternRewritten f y)) : P (patternsReplaced old new x) := by
  have go (fs : List Field) : ∀ y, P y →
      P (fs.foldl (fun x f => if old.get f = new.get f then x else patternRewritten f x) y) := by
    induction fs with
    | nil => exact fun _ hy => hy
    | cons f fs ih =>
      intro y hy
      refine ih _ ?_
      dsimp only
      split
      · exact hy
      · exact h f y hy
  exact go patternFields x h0

@[simp] theorem patternRewritten_store (f : Field) (x : Lights) : (patternRewritten f x).store = x.store := by
  rw [patternRewritten_eq]

@[simp] theorem patternsReplaced_store (old new : Profile) (x : Lights) : (patternsReplaced old new x).store = x.store :=
  patternsReplaced_induct (P := fun y => y.store = x.store) old new rfl fun _ _ hy => by simp [hy]

@[simp] theorem patternRewritten_table (f : Field) (x : Lights) : (patternRewritten f x).table = x.table := by
  rw [patternRewritten_eq]

@[simp] theorem patternsReplaced_table (old new : Profile) (x : Lights) : (patternsReplaced old new x).table = x.table :=
  patternsReplaced_induct (P := fun y => y.table = x.table) old new rfl fun _ _ hy => by simp [hy]

@[simp] theorem patternRewritten_base (f : Field) (x : Lights) : (patternRewritten f x).base = x.base := by
  rw [patternRewritten_eq]

@[simp] theorem patternsReplaced_base (old new : Profile) (x : Lights) : (patternsReplaced old new x).base = x.base :=
  patternsReplaced_induct (P := fun y => y.base = x.base) old new rfl fun _ _ hy => by simp [hy]

@[simp] theorem patternRewritten_mode (f : Field) (x : Lights) : (patternRewritten f x).mode = x.mode := by
  rw [patternRewritten_eq]

@[simp] theorem patternsReplaced_mode (old new : Profile) (x : Lights) : (patternsReplaced old new x).mode = x.mode :=
  patternsReplaced_induct (P := fun y => y.mode = x.mode) old new rfl fun _ _ hy => by simp [hy]

@[simp] theorem patternRewritten_mirrored (f : Field) (x : Lights) : (patternRewritten f x).mirrored = x.mirrored := by
  rw [patternRewritten_eq]

@[simp] theorem patternsReplaced_mirrored (old new : Profile) (x : Lights) : (patternsReplaced old new x).mirrored = x.mirrored :=
  patternsReplaced_induct (P := fun y => y.mirrored = x.mirrored) old new rfl fun _ _ hy => by simp [hy]

@[simp] theorem patternRewritten_shown (f : Field) (x : Lights) : (patternRewritten f x).shown = x.shown := by
  rw [patternRewritten_eq]

@[simp] theorem patternsReplaced_shown (old new : Profile) (x : Lights) : (patternsReplaced old new x).shown = x.shown :=
  patternsReplaced_induct (P := fun y => y.shown = x.shown) old new rfl fun _ _ hy => by simp [hy]

@[simp] theorem patternRewritten_overlay (f : Field) (x : Lights) : (patternRewritten f x).overlay = x.overlay := by
  rw [patternRewritten_eq]

@[simp] theorem patternsReplaced_overlay (old new : Profile) (x : Lights) : (patternsReplaced old new x).overlay = x.overlay :=
  patternsReplaced_induct (P := fun y => y.overlay = x.overlay) old new rfl fun _ _ hy => by simp [hy]

@[simp] theorem patternRewritten_composed (f : Field) (x : Lights) : (patternRewritten f x).composed = x.composed := by
  rw [patternRewritten_eq]

@[simp] theorem patternsReplaced_composed (old new : Profile) (x : Lights) : (patternsReplaced old new x).composed = x.composed :=
  patternsReplaced_induct (P := fun y => y.composed = x.composed) old new rfl fun _ _ hy => by simp [hy]

@[simp] theorem patternRewritten_outputs (f : Field) (x : Lights) : (patternRewritten f x).outputs = x.outputs := by
  rw [patternRewritten_eq]

@[simp] theorem patternsReplaced_outputs (old new : Profile) (x : Lights) : (patternsReplaced old new x).outputs = x.outputs :=
  patternsReplaced_induct (P := fun y => y.outputs = x.outputs) old new rfl fun _ _ hy => by simp [hy]

@[simp] theorem patternRewritten_iLest (f : Field) (x : Lights) : (patternRewritten f x).iLest = x.iLest := by
  rw [patternRewritten_eq]

@[simp] theorem patternsReplaced_iLest (old new : Profile) (x : Lights) : (patternsReplaced old new x).iLest = x.iLest :=
  patternsReplaced_induct (P := fun y => y.iLest = x.iLest) old new rfl fun _ _ hy => by simp [hy]

@[simp] theorem patternRewritten_gUsed (f : Field) (x : Lights) : (patternRewritten f x).gUsed = x.gUsed := by
  rw [patternRewritten_eq]

@[simp] theorem patternsReplaced_gUsed (old new : Profile) (x : Lights) : (patternsReplaced old new x).gUsed = x.gUsed :=
  patternsReplaced_induct (P := fun y => y.gUsed = x.gUsed) old new rfl fun _ _ hy => by simp [hy]

/-- A value left as it is marks nothing (R156). -/
theorem patternsReplaced_same (p : Profile) (x : Lights) : patternsReplaced p p x = x := by
  simp [patternsReplaced, patternFields]

end Sys2Proof.Machine
end

