-- ==== Sys2Proof/Laws/Ops.lean ====
section
/-! SUPPORT. What each shared operation does, once: the fields it writes, as equations or case lemmas to cite instead of unfolding it. -/

set_option Elab.async false

namespace Sys2Proof.Machine

/-! ## Attention queues (R16) -/

theorem postKind_of_mem {k : Attention} {q : List Attention} (h : k ∈ q) : postKind k q = q := by
  simp [postKind, h]

theorem postKind_of_not_mem {k : Attention} {q : List Attention} (h : k ∉ q) : postKind k q = q ++ [k] := by
  simp [postKind, h]

theorem mem_postKind {k x : Attention} {q : List Attention} : x ∈ postKind k q ↔ x = k ∨ x ∈ q := by
  by_cases h : k ∈ q
  · rw [postKind_of_mem h]
    constructor
    · exact .inr
    · rintro (rfl | hx)
      · exact h
      · exact hx
  · rw [postKind_of_not_mem h]
    simp [or_comm]

/-- Posting keeps each kind at most once (R16). -/
theorem postKind_nodup {k : Attention} {q : List Attention} (h : q.Nodup) : (postKind k q).Nodup := by
  by_cases hk : k ∈ q
  · rwa [postKind_of_mem hk]
  · rw [postKind_of_not_mem hk]
    exact List.nodup_append.mpr ⟨h, List.nodup_singleton k, by
      intro a ha b hb
      rw [List.mem_singleton] at hb
      subst hb
      exact fun e => hk (e ▸ ha)⟩

@[simp] theorem postAll_attention (k : Attention) (s : State) (l : Link) :
    (postAll k s).disp.attention.get l = postKind k (s.disp.attention.get l) :=
  PerLink.get_map _ _ _

@[simp] theorem postOthers_attention (k : Attention) (l m : Link) (s : State) :
    (postOthers k l s).disp.attention.get m =
      if m = l then s.disp.attention.get m else postKind k (s.disp.attention.get m) :=
  PerLink.get_map _ _ _

theorem postTo_attention (k : Attention) (l m : Link) (s : State) :
    (postTo k l s).disp.attention.get m =
      if m = l then postKind k (s.disp.attention.get l) else s.disp.attention.get m :=
  PerLink.get_set _ _ _ _

theorem writeSense_sense (l m : Link) (x : Sense) (s : State) :
    (writeSense l x s).disp.sense.get m = if m = l then x else s.disp.sense.get m :=
  PerLink.get_set _ _ _ _

/-! ## Notices (R169) -/

/-- Appending keeps the bound of 8. -/
theorem Port.append_notices_le (q : Port) (n : Notice) (h : q.notices.length ≤ 8) :
    (q.append n).notices.length ≤ 8 := by
  unfold Port.append
  split
  · rw [List.length_append]
    simp
    omega
  · exact h

/-- Appending changes the queue and notices-lost alone. -/
theorem Port.append_kept (q : Port) (n : Notice) :
    portKept q (q.append n) ∧ (q.append n).status = q.status ∧ (q.append n).tx = q.tx ∧
      (q.append n).framesLost = q.framesLost ∧ (q.append n).offered = q.offered := by
  unfold Port.append portKept
  split <;> simp

/-- Notices appended one after the other: as many as there is room for, the others lost (R169). -/
theorem Port.foldl_append (q : Port) (ns : List Notice) :
    ns.foldl Port.append q = { q with
      notices := q.notices ++ ns.take (8 - q.notices.length)
      noticesLost := q.noticesLost || decide (8 - q.notices.length < ns.length) } := by
  induction ns generalizing q with
  | nil => simp
  | cons n ns ih =>
    rw [List.foldl_cons, ih]
    unfold Port.append
    split
    · next h =>
      obtain ⟨k, hk⟩ : ∃ k, 8 - q.notices.length = k + 1 := ⟨8 - q.notices.length - 1, by omega⟩
      have hk' : 8 - (q.notices.length + 1) = k := by omega
      simp [hk, hk']
    · next h =>
      have hk : 8 - q.notices.length = 0 := by omega
      simp [hk]

/-- What a port takes of an offered notice: nothing but the list of the event's notices changes (R169). -/
theorem Port.offer_kept (q : Port) (n : Notice) :
    portKept q (q.offer n) ∧ (q.offer n).status = q.status ∧ (q.offer n).tx = q.tx ∧
      (q.offer n).framesLost = q.framesLost ∧ (q.offer n).notices = q.notices := by
  unfold Port.offer
  split
  · simp [Port.hand, portKept]
  · simp [portKept]

/-! ### The order of one event's notices (R66, R169) -/

/-- A notice slipped in among others joins them. -/
theorem slip_perm (n : Notice) (k : Nat) (xs : List Notice) : (slip n k xs).Perm (n :: xs) := by
  induction xs generalizing k with
  | nil => exact .refl _
  | cons x xs ih =>
    unfold slip
    split
    · exact .refl _
    · exact ((ih (k - 1)).cons x).trans (List.Perm.swap n x xs)

theorem arrangeFrom_perm (pass : Nat → Nat) (i : Nat) (latest ns : List Notice) :
    (arrangeFrom pass i latest ns).Perm (latest ++ ns) := by
  induction ns generalizing i latest with
  | nil => simpa [arrangeFrom] using latest.reverse_perm
  | cons n ns ih =>
    unfold arrangeFrom
    exact (ih (i + 1) _).trans (((slip_perm n (pass i) latest).append_right ns).trans List.perm_middle.symm)

/-- A port takes each notice of the event once, in some order. -/
theorem arrange_perm (pass : Nat → Nat) (ns : List Notice) : (arrange pass ns).Perm ns :=
  arrangeFrom_perm pass 0 [] ns

@[simp] theorem arrange_nil (pass : Nat → Nat) : arrange pass [] = [] := rfl

@[simp] theorem arrange_singleton (pass : Nat → Nat) (n : Notice) : arrange pass [n] = [n] := rfl

/-- Two notices of one source keep their order (R62, R101, R104). -/
theorem arrange_pair (pass : Nat → Nat) {m n : Notice} (h : m.source = n.source) : arrange pass [m, n] = [m, n] := by
  simp [arrange, arrangeFrom, slip, h]

/-- All that the end of an event does to a queue: the event's notices in some order, as many as there is room for. -/
theorem Port.queueOffered_eq (pass : Nat → Nat) (q : Port) :
    q.queueOffered pass = { q with
      offered := []
      notices := q.notices ++ (arrange pass q.offered).take (8 - q.notices.length)
      noticesLost := q.noticesLost || decide (8 - q.notices.length < q.offered.length) } := by
  unfold Port.queueOffered
  rw [Port.foldl_append, (arrange_perm pass q.offered).length_eq]

/-- A port to which the event offered nothing keeps its queue. -/
theorem Port.queueOffered_nil (pass : Nat → Nat) (q : Port) (h : q.offered = []) : q.queueOffered pass = q := by
  obtain ⟨⟩ := q
  subst h
  rfl

/-- Queueing the event's notices keeps the bound of 8 and leaves none waiting to join. -/
theorem Port.queueOffered_fits (pass : Nat → Nat) (q : Port) (h : q.notices.length ≤ 8) :
    (q.queueOffered pass).notices.length ≤ 8 ∧ (q.queueOffered pass).offered = [] := by
  rw [Port.queueOffered_eq]
  refine ⟨?_, rfl⟩
  simp only [List.length_append, List.length_take]
  omega

theorem Port.queueOffered_kept (pass : Nat → Nat) (q : Port) :
    portKept q (q.queueOffered pass) ∧ (q.queueOffered pass).status = q.status ∧
      (q.queueOffered pass).tx = q.tx ∧ (q.queueOffered pass).framesLost = q.framesLost := by
  rw [Port.queueOffered_eq]
  simp [portKept]

theorem Port.startNext_kept (q : Port) (stage : Stage) : portKept q (q.startNext stage) := by
  unfold Port.startNext portKept
  split
  · simp
  · split
    · simp
    · split <;> simp

theorem Port.arbitrate_kept (q : Port) (b : Bool) (stage : Stage) : portKept q (q.arbitrate b stage) := by
  unfold Port.arbitrate
  split
  · unfold Port.startNotice portKept
    split <;> simp
  · exact q.startNext_kept stage

/-- Everything the next frame's start can do (R167, R168). -/
theorem Port.startNext_cases (q : Port) (stage : Stage) :
    q.startNext stage = q ∨
      (∃ st, q.tx = none ∧ q.status = some st ∧ q.startNext stage = { q with
        status := none, framesLost := false, noticesLost := false,
        tx := some ⟨true, statusBytes st (statusFlags q.framesLost q.noticesLost stage)⟩ }) ∨
      ∃ n rest, q.tx = none ∧ q.status = none ∧ q.notices = n :: rest ∧
        q.startNext stage = { q with notices := rest, tx := some ⟨false, noticeBytes n⟩ } := by
  unfold Port.startNext
  cases ht : q.tx with
  | some f => exact .inl rfl
  | none =>
    cases hs : q.status with
    | some st => exact .inr (.inl ⟨st, rfl, rfl, rfl⟩)
    | none =>
      cases hn : q.notices with
      | nil => exact .inl rfl
      | cons n rest => exact .inr (.inr ⟨n, rest, rfl, rfl, rfl, rfl⟩)

/-- Everything the arbiter can do at the end of an event (R168). -/
theorem Port.arbitrate_cases (q : Port) (b : Bool) (stage : Stage) :
    q.arbitrate b stage = q.startNext stage ∨
      ∃ n rest, q.tx = none ∧ q.notices = n :: rest ∧
        q.arbitrate b stage = { q with notices := rest, tx := some ⟨false, noticeBytes n⟩ } := by
  unfold Port.arbitrate
  split
  · next h =>
    cases hn : q.notices with
    | nil => simp [Port.raced, hn] at h
    | cons n rest =>
      refine .inr ⟨n, rest, ?_, rfl, by simp [Port.startNotice, hn]⟩
      simp only [Port.raced, Bool.and_eq_true, Option.isNone_iff_eq_none] at h
      exact h.1.1.1
  · exact .inl rfl

theorem portKept.refl (q : Port) : portKept q q := by simp [portKept]

theorem portKept.trans {a b c : Port} (h : portKept a b) (k : portKept b c) : portKept a c := by
  obtain ⟨h1, h2, h3, h4, h5, h6, h7⟩ := h
  obtain ⟨k1, k2, k3, k4, k5, k6, k7⟩ := k
  exact ⟨k1.trans h1, k2.trans h2, k3.trans h3, k4.trans h4, k5.trans h5, k6.trans h6, k7.trans h7⟩

theorem Port.endEvent_kept (pass : Nat → Nat) (b : Bool) (stage : Stage) (q : Port) :
    portKept q (q.endEvent pass b stage) :=
  (q.queueOffered_kept pass).1.trans (Port.arbitrate_kept _ b stage)

theorem portsKept.refl (s : State) : portsKept s s := fun _ => .refl _

theorem portsKept.trans {a b c : State} (h : portsKept a b) (k : portsKept b c) : portsKept a c :=
  fun m => (h m).trans (k m)

theorem offer_portsKept (n : Notice) (s : State) : portsKept s (offer n s) := by
  intro m
  rw [offer_get]
  exact ((s.ports.get m).offer_kept n).1

theorem offerList_portsKept (ns : List Notice) (s : State) : portsKept s (offerList ns s) := by
  induction ns generalizing s with
  | nil => exact .refl _
  | cons n ns ih => exact (offer_portsKept n s).trans (ih _)

theorem arbitrate_portsKept (s : State) : portsKept s (arbitrate s) := by
  intro m
  rw [arbitrate_get]
  exact Port.endEvent_kept _ _ _ _

theorem handDone_portsKept (u : UnitId) (op : LongOp) (r : OpResult) (s : State) :
    portsKept s (handDone u op r s) := by
  intro m
  unfold handDone
  cases op.owner with
  | none => exact .refl _
  | some l =>
    by_cases h : m = l
    · subst h
      rw [setPort_get_same]
      simp [Port.hand, portKept]
    · rw [setPort_get_other _ _ h]
      exact .refl _

/-! ## Long operations (R17, R18) -/

theorem endOp_of_some {u : UnitId} {op : LongOp} {r : OpResult} {s : State} (h : s.disp.op u = some op) :
    endOp u r s = { handDone u op r s with disp := s.disp.setOp u none } := by
  simp [endOp, h]

theorem endOp_of_none {u : UnitId} {r : OpResult} {s : State} (h : s.disp.op u = none) : endOp u r s = s := by
  simp [endOp, h]

theorem endOp_portsKept (u : UnitId) (r : OpResult) (s : State) : portsKept s (endOp u r s) := by
  cases h : s.disp.op u with
  | none => rw [endOp_of_none h]; exact .refl _
  | some op =>
    rw [endOp_of_some h]
    exact handDone_portsKept u op r s

@[simp] theorem DispatcherState.op_setOp_same_winch (d : DispatcherState) (o : Option LongOp) :
    (d.setOp .winch o).op .winch = o := rfl

@[simp] theorem DispatcherState.op_setOp_same_lights (d : DispatcherState) (o : Option LongOp) :
    (d.setOp .lights o).op .lights = o := rfl

@[simp] theorem DispatcherState.op_setOp_same_chassis (d : DispatcherState) (o : Option LongOp) :
    (d.setOp .chassis o).op .chassis = o := rfl

/-- Emptying a slot that is empty changes nothing. -/
theorem DispatcherState.setOp_op (d : DispatcherState) (u : UnitId) : d.setOp u (d.op u) = d := by
  cases u <;> rfl

/-- An ended operation leaves its slot empty, whatever stood in it. -/
theorem endOp_disp (u : UnitId) (r : OpResult) (s : State) : (endOp u r s).disp = s.disp.setOp u none := by
  cases h : s.disp.op u with
  | none =>
    rw [endOp_of_none h, ← h, DispatcherState.setOp_op]
  | some op => rw [endOp_of_some h]

/-! ## The reservation table (R9, R11, R21) -/

theorem Holders.get_set (h : Holders) (u v : UnitId) (m : Option Link) (hu : u.reservable = true) :
    (h.set u m).get v = if v = u then m else h.get v := by
  cases u <;> cases v <;> simp_all [Holders.set, Holders.get, UnitId.reservable]

theorem Holders.get_releaseAll (h : Holders) (l : Link) (u : UnitId) :
    (h.releaseAll l).get u = if h.get u = some l then none else h.get u := by
  cases u <;> simp [Holders.releaseAll, Holders.get] <;> congr

theorem LastCommanders.get_forget (c : LastCommanders) (l : Link) (u : UnitId) :
    (c.forget l).get u = if c.get u = some l then none else c.get u := by
  cases u <;> simp [LastCommanders.forget, LastCommanders.get] <;> congr

/-! ## The hold request and the stops of the drive (R34, R42, R55) -/

@[simp] theorem handHold_wheels (release : Bool) (s : State) :
    (handHold release s).wheels = s.wheels.map (Channel.holdRequest release) := by
  simp [handHold]

theorem handHold_portsKept (release : Bool) (s : State) : portsKept s (handHold release s) :=
  offerList_portsKept _ { s with wheels := s.wheels.map (Channel.holdRequest release) }

/-- What a taken throttle does to the wheels (R42, R45). -/
theorem takeThrottle_wheels (t : Int) (s : State) : (takeThrottle t s).wheels =
    if s.drive.state = .safeHold then s.wheels.map (Channel.holdRequest false) else s.wheels := by
  unfold takeThrottle; split <;> simp [setDrive]

@[simp] theorem takeThrottle_drive (t : Int) (s : State) : (takeThrottle t s).drive = storeThrottle t s.drive := by
  unfold takeThrottle; split <;> simp [setDrive]

theorem takeThrottle_portsKept (t : Int) (s : State) : portsKept s (takeThrottle t s) := by
  unfold takeThrottle; split
  · exact handHold_portsKept false (setDrive (storeThrottle t s.drive) s)
  · exact .refl s

@[simp] theorem haltDrive_drive (st : DriveState) (release : Bool) (s : State) :
    (haltDrive st release s).drive = s.drive.zeroed st := by
  simp [haltDrive]

@[simp] theorem haltDrive_wheels (st : DriveState) (release : Bool) (s : State) :
    (haltDrive st release s).wheels = s.wheels.map (Channel.holdRequest release) := by
  simp [haltDrive]

theorem haltDrive_portsKept (st : DriveState) (release : Bool) (s : State) : portsKept s (haltDrive st release s) :=
  handHold_portsKept release { s with drive := s.drive.zeroed st }

@[simp] theorem stopDrive_drive (s : State) : (stopDrive s).drive = s.drive.zeroed s.drive.state.afterStop := by
  simp [stopDrive]

@[simp] theorem stopDrive_wheels (s : State) : (stopDrive s).wheels = s.wheels.map (Channel.holdRequest false) := by
  simp [stopDrive]

/-- A second hold request changes nothing. -/
theorem Channel.holdRequest_idem (release : Bool) (c : Channel) :
    Channel.holdRequest release (Channel.holdRequest release c) = Channel.holdRequest release c := by
  cases release <;> cases h : c.state <;> simp [Channel.holdRequest, Channel.toHold, h]

/-- After a hold request without a latch release the stored target is 0 and no channel is driven. -/
theorem Channel.holdRequest_target (release : Bool) (c : Channel) :
    (Channel.holdRequest release c).target = 0 ∧ (Channel.holdRequest release c).state.driven = false := by
  cases release <;> cases h : c.state <;>
    simp [Channel.holdRequest, Channel.toHold, ChannelState.driven, h]

/-! ## The winch's stops and the tow link (R98, R99, R104) -/

@[simp] theorem endWinchOp_winch (r : OpResult) (s : State) : (endWinchOp r s).winch = s.winch.toIdle := by
  simp [endWinchOp]

theorem endWinchOp_disp (r : OpResult) (s : State) :
    (endWinchOp r s).disp = { s.disp with winchOp := none } := by
  simp [endWinchOp, endOp_disp, DispatcherState.setOp]

/-- What the stop action leaves of the winch (R99). -/
theorem winchStopAction_winch (s : State) :
    (winchStopAction s).winch = { s.winch with
      state := if s.winch.state = .free then .free else .idle
      runSpeed := 0
      moveTarget := none
      moveDir := none
      refTimer := 0
      loadTimer := 0
      bridge := if s.winch.state = .free ∨ s.winch.state = .idle then s.winch.bridge else .brake } := by
  cases h : s.winch.state <;> simp [winchStopAction, h, Winch.toIdle, setWinch]

theorem winchStopAction_disp (s : State) :
    (winchStopAction s).disp = { s.disp with
      winchOp := if s.winch.state = .move ∨ s.winch.state = .reference then none else s.disp.winchOp } := by
  cases h : s.winch.state <;> simp [winchStopAction, h, endWinchOp_disp]

theorem endTow_of_none {c : TowCause} {s : State} (h : s.winch.tow = none) : endTow c s = s := by
  simp [endTow, h]

theorem endTow_of_some {c : TowCause} {w : TowLink} {s : State} (h : s.winch.tow = some w) :
    endTow c s = haltDrive c.driveState false (offer (.winch .towEnd c.code)
      (setWinch { s.winch with tow := none } s)) := by
  simp [endTow, h]

@[simp] theorem endTow_winch (c : TowCause) (s : State) : (endTow c s).winch = { s.winch with tow := none } := by
  cases h : s.winch.tow with
  | none =>
    rw [endTow_of_none h]
    cases hw : s.winch
    simp_all
  | some w => simp [endTow_of_some h]

theorem endTow_portsKept (c : TowCause) (s : State) : portsKept s (endTow c s) := by
  cases h : s.winch.tow with
  | none => rw [endTow_of_none h]; exact .refl _
  | some w =>
    rw [endTow_of_some h]
    exact (offer_portsKept (.winch .towEnd c.code) (setWinch { s.winch with tow := none } s)).trans
      (haltDrive_portsKept _ _ _)

end Sys2Proof.Machine
end

