-- ==== Sys2Proof/Laws/Store.lean ====
section
/-! SUPPORT. The blank image a new part starts from: its check fails (R162, R180, R184). -/

set_option Elab.async false

namespace Sys2Proof.Machine

/-- The check register over a run of bytes, its value made a numeral before each byte, so that the kernel evaluates long runs. -/
def crcForced (bytes : List Byte) (r : BitVec 16) : BitVec 16 :=
  match bytes with
  | [] => r
  | b :: rest =>
    match r.toNat with
    | 0 => crcForced rest (crcByte 0#16 b)
    | k + 1 => crcForced rest (crcByte (BitVec.ofNat 16 (k + 1)) b)

theorem crcForced_eq (bytes : List Byte) (r : BitVec 16) : crcForced bytes r = bytes.foldl crcByte r := by
  induction bytes generalizing r with
  | nil => rfl
  | cons b rest ih =>
    have h : BitVec.ofNat 16 r.toNat = r := by simp
    rw [crcForced]
    split
    · next h0 => rw [h0] at h; rw [ih, List.foldl_cons, ← h]
    · next k hk => rw [hk] at h; rw [ih, List.foldl_cons]; exact congrArg (fun x => List.foldl crcByte (crcByte x b) rest) h

/-- The check of the blank image's contents. -/
theorem blank_check : imageCheck Image.blank.contents = 0xE4CF#16 := by
  rw [imageCheck, crc16, ← crcForced_eq]
  decide +kernel

/-- The blank image fails its check (R184). -/
theorem blank_bad : Image.blank.good = false := by
  rw [Image.good, blank_check]
  decide

end Sys2Proof.Machine
end

