-- ==== Sys2Proof/Tests/Slice0.lean ====
section
/-! SUPPORT. The model's own tests: ill-formed terms that the well-formedness check refuses, worked examples of the manual one step at a time, and, for every statement with hypotheses, a state and operands that meet them. Each test names the rule or the section its expected result is from. -/

set_option Elab.async false

namespace Sys2Proof.Tests

open Sys2Proof.Machine

/-! ## Small states -/

/-- The part after power-on, its attention kinds read and its stage classified. -/
def quiet : State :=
  { State.reset with
    disp := { State.reset.disp with attention := ⟨[], [], []⟩ }
    supply := { State.reset.supply with initialPending := false } }

/-- `quiet` with the winch as given. -/
def withWinch (w : Winch) : State := { quiet with winch := w }

/-- `quiet` with one wheel channel as given. -/
def withWheel (w : Wheel) (c : Channel) : State := { quiet with wheels := quiet.wheels.set w c }

/-- Three cells of one voltage. -/
def cellsAt (v : Nat) : Taps := ⟨v, 2 * v, 3 * v, 3 * v⟩

/-- `quiet` with the stage as given. -/
def inStage (st : Stage) : State := { quiet with supply := { quiet.supply with stage := st } }

/-- A state with a unit held by a link. -/
def held (u : UnitId) (l : Link) (s : State) : State :=
  { s with disp := { s.disp with holders := s.disp.holders.set u (some l) } }

/-- A state with an operation in a unit's slot. -/
def busyWith (u : UnitId) (op : LongOp) (s : State) : State := { s with disp := s.disp.setOp u (some op) }

/-- A state with one port changed. -/
def atPort (l : Link) (f : Port → Port) (s : State) : State := { s with ports := s.ports.set l (f (s.ports.get l)) }

/-- `quiet` with the profile store in an image state. -/
def imageIn (st : ImageState) : State := { quiet with chassis := { quiet.chassis with imageState := st } }

/-- Image contents that the defaults would give. -/
def plain : ImageContents := ⟨.defaults, zeroStore, Vector.replicate 16 .undefined⟩

/-- `quiet` with a tow link of link W, which holds WINCH (section 5.11). -/
def towing : State :=
  held .winch .w { quiet with
    winch := { quiet.winch with tow := some ⟨.w, 0⟩ }
    drive := { quiet.drive with state := .towing } }

/-- `quiet` with pattern 1 defined over frames 2 and 3, step time 1, LOOP. -/
def lit : State :=
  { quiet with lights := setRecord 1 ⟨⟨true, 2, 2, 1, .loop⟩, none⟩ quiet.lights }

/-- `lit` with the BASE record as given. -/
def withBase (b : Base) : State := { lit with lights := { lit.lights with base := b } }

/-- A check over the next state. -/
def after (i : Instr) (s : State) (p : State → Bool) : Bool :=
  match exec i s with
  | .next t => p t
  | .fault _ | .refused _ => false

/-! ## Well-formedness refuses -/

theorem test_wf_block_too_long : (Instr.driveSet .p 1 0 (List.replicate 49 0)).wf = false := by decide +kernel
theorem test_wf_extra_too_long : (Instr.towAssistOn .w 1 2 (List.replicate 48 0)).wf = false := by decide +kernel
theorem test_wf_known_code : (Instr.unknownCommand .p 1 0 0x20 []).wf = false := by decide +kernel
theorem test_wf_tap_too_high : (Instr.supplyPeriod ⟨20001, 0, 0, 0⟩ 0).wf = false := by decide +kernel
theorem test_wf_longest_block : (Instr.driveSet .p 1 0 (List.replicate 48 0)).wf = true := by decide +kernel

/-! ## Worked examples of the manual -/

/-- The check value that the CRC of R162 is known by (public knowledge of the generator 1021h, start FFFFh). -/
theorem test_crc_check_value : crc16 [0x31, 0x32, 0x33, 0x34, 0x35, 0x36, 0x37, 0x38, 0x39] = 0x29B1 := by
  decide +kernel

/-- The interpolation example of R29. -/
theorem test_tangent_example : tanQ (-263) = -8098 := by decide +kernel

/-- Section 2.12, a right turn at part throttle. -/
theorem test_right_turn :
    let p := (((Profile.defaults.set .wheelbase 300).set .track 250).set .fullSpeed 1200)
    curvature p 175 0 = 17220 ∧ leftFactor p 17220 = 18536 ∧ rightFactor p 17220 = 14232 ∧
      wheelTarget 720 18536 1024 = 815 ∧ wheelTarget 720 14232 800 = 488 := by decide +kernel

/-- Section 2.12, a left counter-steer turn, and the limits. -/
theorem test_counter_steer :
    demandedAngles (-400) .counter 500 350 = ⟨-140, 70⟩ ∧
      curvature (Profile.defaults.set .track 250) (-140) 70 = -19053 ∧ wheelTarget 2000 32767 1024 = 4000 := by
  decide +kernel

/-- Section 2.12, the tow base speed. -/
theorem test_tow_speed : towSpeed Profile.defaults { Winch.reset with state := .runIn, speed := 400 } = 300 := by
  decide +kernel

/-- The examples of R71: ±17.5 degrees at gain 11. -/
theorem test_servo_pulse : after (.servoFrame .front)
    { quiet with steer := { quiet.steer with delta := ⟨175, -175⟩ } }
    (fun t => t.steer.pulse.front = 1693) = true := by decide +kernel

theorem test_servo_pulse_left : after (.servoFrame .rear)
    { quiet with steer := { quiet.steer with delta := ⟨175, -175⟩ } }
    (fun t => t.steer.pulse.rear = 1307) = true := by decide +kernel

/-- The example of R123: I_max 5001. -/
theorem test_available :
    available (Profile.defaults.set .packLimit 5001) .conserve = 3750 ∧
      available (Profile.defaults.set .packLimit 5001) .limit = 2500 := by decide +kernel

/-- The example of R128: 24000 mA against a cap of 20500. -/
theorem test_governor_cut : feedback 16 1024 24000 20500 = 874 := by decide +kernel

/-- R155: at g_L 1024 the output is the composed value, at 0 it is 0. -/
theorem test_dimming : (254 * 1024 + 512) / 1024 = 254 ∧ (254 * 0 + 512) / 1024 = 0 := by decide

/-- Section 3.13: a first trip of 21400 mA is a FAULT with the bridge open. -/
theorem test_first_trip : after (.regulatorPeriod .rr 0 21400) (withWheel .rr { Channel.reset with state := .run })
    (fun t => t.wheels.rr.state = .fault ∧ t.wheels.rr.bridge = .opened ∧ t.wheels.rr.history = .armed 0) = true := by
  decide +kernel

/-- R62: a second trip inside the window latches the channel. -/
theorem test_second_trip_latches : after (.regulatorPeriod .rr 0 21400)
    (withWheel .rr { Channel.reset with state := .run, history := .armed 1998 })
    (fun t => t.wheels.rr.state = .off ∧ t.wheels.rr.history = .latched) = true := by decide +kernel

/-- R186: the reply of IDENTIFY starts with the identity, and DEFAULTS is reported (section 10). -/
theorem test_identify : after (.identify .p 1 5 []) quiet
    (fun t => ((t.ports.p.tx.map TxFrame.bytes).getD []).drop 6 |>.take 6 |> (· == [0x7D, 0x0B, 0x48, 0x00, 1, 1]))
    = true := by decide +kernel

/-- R4: after power-on the first command meets ATTEND RESTARTED. -/
theorem test_restarted : after (.driveSet .p 7 0 [0, 0]) State.reset
    (fun t => t.disp.attention.p = [] ∧ t.disp.sense.p = ⟨.attention .restarted, 0, 7, none⟩) = true := by
  decide +kernel

/-- R45: the throttle clamped. -/
theorem test_throttle_clamped : after (.driveSet .p 7 0 [0xD0, 0x07]) quiet (fun t => t.drive.t = 1000) = true := by
  decide +kernel

/-- R89: a MOVE from an unreferenced winch is refused. -/
theorem test_move_unreferenced : after (.winchToLength .w 7 2 [0, 0, 0, 0]) quiet
    (fun t => t.disp.sense.w.reason = .notReady .unreferenced ∧ t.winch.state = .idle) = true := by decide +kernel

/-- R115: SUPPLY CLEAR at T_LIMIT + H. -/
theorem test_supply_clear : after (.supplyClear .s 7 4 [])
    { inStage .cutoff with supply := { (inStage .cutoff).supply with vComp := 3550 } }
    (fun t => t.supply.stage = .limit) = true := by decide +kernel

/-- The worked example of chapter 6: the STAGE notice of the change to CONSERVE at 3438 mV, cause DOWN. -/
theorem test_stage_notice : after (.supplyPeriod (cellsAt 3438) 0)
    (atPort .w (fun q => { q with mask := 8 })
      { quiet with supply := { quiet.supply with down := 490, candidate := some .conserve } })
    (fun t => ((t.ports.w.tx.map TxFrame.bytes).getD []).take 11 = [0xC5, 9, 3, 3, 4, 0, 1, 0, 0x6E, 0x0D, 1]) = true := by
  decide +kernel

/-- R87: from IDLE the bridge holds the brake until the next winch period, whatever the bridge was. -/
theorem test_run_from_idle_braked : after (.winchRun .w 7 2 [0, 10, 0]) (withWinch { Winch.reset with bridge := .driven 900 })
    (fun t => t.winch.state = .runIn ∧ t.winch.bridge = .brake) = true := by decide +kernel

/-- R158: LIGHT AUTO leaves the reported activities as the latest boundary left them. -/
theorem test_auto_keeps_shown : after (.lightAuto .p 7 3 [1])
    { quiet with lights := { quiet.lights with
      mode := .manual
      brake := { quiet.lights.brake with active := true }
      shown := ⟨false, true, false⟩ } }
    (fun t => t.lights.brake.active = false ∧ t.lights.shown = ⟨false, true, false⟩) = true := by decide +kernel

/-- R101: LOAD stands before the DONE of the same event, whatever the free order. -/
theorem test_load_before_done :
    arrange (Config.noticeOrder .p 0) [.winch .load 9000, .done .winch 1 .loadLimit] =
      [.winch .load 9000, .done .winch 1 .loadLimit] := by decide +kernel

/-- R66, R169: two channels in either order, and a queue with one place left keeps the first taken. -/
theorem test_either_order :
    let q : Port := { Port.reset none with
      notices := List.replicate 7 (.winch .load 1), offered := [.wheel .fl .stallOff 3, .wheel .rr .stallOff 3] }
    (q.queueOffered id).notices.drop 7 = [.wheel .rr .stallOff 3] ∧
      (q.queueOffered fun _ => 0).notices.drop 7 = [.wheel .fl .stallOff 3] ∧
      (q.queueOffered id).noticesLost = true := by decide +kernel

/-- R156: a write that changes the brake pattern marks the source. -/
theorem test_pattern_write_marks : after (.profileWrite .p 7 (byteOf UnitId.chassis.number) (byteOf Field.brakePattern.row.number :: bytes4 1))
    { quiet with chassis := { quiet.chassis with profile := Profile.defaults.set .brakePattern 2 } }
    (fun t => t.lights.brake.rewritten = true ∧ t.chassis.profile.get .brakePattern = 1) = true := by decide +kernel

/-- R156: an active source whose field was written away and back since the latest boundary restarts at step 0. -/
theorem test_pattern_rewritten_restarts : after .lightFrameBoundary
    { lit with
      drive := { lit.drive with braking := true }
      chassis := { lit.chassis with profile := Profile.defaults.set .brakePattern 1 }
      lights := { lit.lights with brake := ⟨true, 1, ⟨1, 1⟩, true⟩ } }
    (fun t => t.lights.brake = ⟨true, 1, ⟨0, 1⟩, false⟩) = true := by decide +kernel

/-- R140: a source that starts at a boundary takes the step time the record then has (log entry 16). -/
theorem test_start_up_countdown : after .lightFrameBoundary (withBase ⟨⟨.pattern 1, ⟨0, 100⟩, true⟩, none, none⟩)
    (fun t => t.lights.base.live = ⟨.pattern 1, ⟨0, 1⟩, false⟩) = true := by decide +kernel

/-- R130: a factor of 0 for a cap of 0. -/
theorem test_lights_dark : lightsGovernor 1 0 = 0 ∧ lightsGovernor 0 0 = 1024 := by decide +kernel

/-! ## Witnesses: the step, the queue and the power -/

theorem witness_StepRunsTheFrontCommand :
    ({ quiet with pending := [.powerLoss, .powerOn] } : State).pending = .powerLoss :: [.powerOn] := rfl

theorem witness_IdleStepPassesOneMillisecond :
    quiet.pending = [] ∧ quiet.powered = true := ⟨rfl, rfl⟩

theorem witness_IdleStep_unpowered :
    ({ quiet with powered := false } : State).pending = [] ∧ ({ quiet with powered := false } : State).powered = false := ⟨rfl, rfl⟩

theorem witness_UnpoweredPartTakesNoEvent :
    ({ quiet with powered := false } : State).powered = false ∧ Instr.powerLoss ≠ .powerOn := ⟨rfl, by decide⟩

theorem witness_OutcomeRows :
    (Instr.fadeEnd = .playbackCountdown ∨ Instr.fadeEnd = .fadeEnd) ∧
      (Instr.dwellUpReached ⟨0, 0, 0, 0⟩ 0 = .dwellDownReached ⟨0, 0, 0, 0⟩ 0 ∨
        Instr.dwellUpReached ⟨0, 0, 0, 0⟩ 0 = .dwellUpReached ⟨0, 0, 0, 0⟩ 0) := by decide +kernel

/-- The part without power on an image that passes its check, and on one that does not. -/
def off (i : Image) : State := { quiet with powered := false, chassis := { quiet.chassis with image := i } }

theorem witness_PowerOnLoadsTheImage_good :
    (off (closedImage plain)).powered = false ∧ (off (closedImage plain)).chassis.image.good = true := by
  refine ⟨rfl, ?_⟩
  simp [off, closedImage, Image.good]

theorem witness_PowerOnLoadsTheImage_bad :
    (off ⟨plain, ~~~(imageCheck plain)⟩).powered = false ∧
      (off ⟨plain, ~~~(imageCheck plain)⟩).chassis.image.good = false := by
  refine ⟨rfl, ?_⟩
  simp only [off, Image.good, beq_eq_false_iff_ne]
  intro h
  have := congrArg (fun x : BitVec 16 => x.getLsbD 0) h
  simp at this

theorem witness_PowerOnOfAPoweredPart :
    quiet.powered = true ∧ exec .powerLoss quiet = .next { quiet with powered := false } := ⟨rfl, rfl⟩

theorem witness_PowerLoss_ready :
    quiet.powered = true ∧ quiet.chassis.imageState ≠ .writing := by decide +kernel

/-- A commit in flight. -/
def writing : State :=
  busyWith .chassis ⟨.commit, some .p, 9, 0⟩
    { quiet with chassis := { quiet.chassis with imageState := .writing, snapshot := some plain } }

theorem witness_PowerLoss_writing :
    writing.powered = true ∧ writing.chassis.imageState = .writing ∧ writing.chassis.snapshot = some plain := ⟨rfl, rfl, rfl⟩

/-! ## Witnesses: screening -/

theorem witness_AttentionDeliversTheOldestKind :
    instrFrame (.driveSet .p 1 0 [0, 0]) = some (.p, ⟨1, 0, 0x20, [0, 0]⟩) ∧ slotFree .p State.reset = true ∧
      State.reset.disp.attention.get .p = .restarted :: [] ∧ (0x20 : Byte) ≠ 0x12 ∧ (0x20 : Byte) ≠ 0x70 := by decide +kernel

theorem witness_ValidityRefusesInOrder_unknown :
    instrFrame (.unknownCommand .p 1 0 0xFF []) = some (.p, ⟨1, 0, 0xFF, []⟩) ∧ slotFree .p quiet = true ∧
      quiet.disp.attention.get .p = [] ∧ CmdName.ofCode 0xFF = none := by decide +kernel

theorem witness_ValidityRefusesInOrder_unit :
    instrFrame (.driveSet .p 1 3 [0, 0]) = some (.p, ⟨1, 3, 0x20, [0, 0]⟩) ∧ slotFree .p quiet = true ∧
      quiet.disp.attention.get .p = [] ∧ CmdName.ofCode 0x20 = some .driveSet ∧ unitFits .driveSet 3 = false := by decide +kernel

theorem witness_ValidityRefusesInOrder_block :
    instrFrame (.driveSet .p 1 0 [0]) = some (.p, ⟨1, 0, 0x20, [0]⟩) ∧ slotFree .p quiet = true ∧
      quiet.disp.attention.get .p = [] ∧ CmdName.ofCode 0x20 = some .driveSet ∧ unitFits .driveSet 0 = true ∧
      blockFits .driveSet [0] = false := by decide +kernel

theorem witness_HeldUnitAnswersConflict :
    instrFrame (.driveSet .w 1 0 [0, 0]) = some (.w, ⟨1, 0, 0x20, [0, 0]⟩) ∧
      slotFree .w (held .drive .p quiet) = true ∧ (held .drive .p quiet).disp.attention.get .w = [] ∧
      CmdName.ofCode 0x20 = some .driveSet ∧ unitFits .driveSet 0 = true ∧ blockFits .driveSet [0, 0] = true ∧
      CmdName.driveSet.row.cls = .mutating ∧ CmdName.driveSet.row.target = some .drive ∧
      (held .drive .p quiet).disp.holders.get .drive = some .p ∧ Link.p ≠ .w := by decide +kernel

theorem witness_HeldUnitIsLeftAlone :
    instrFrame (.driveSet .w 1 0 [0, 0]) = some (.w, ⟨1, 0, 0x20, [0, 0]⟩) ∧
      CmdName.ofCode 0x20 = some .driveSet ∧ CmdName.driveSet.row.cls = .mutating ∧
      CmdName.driveSet.row.target = some .drive ∧ (held .drive .p quiet).disp.holders.get .drive = some .p ∧
      Link.p ≠ .w ∧ after (.driveSet .w 1 0 [0, 0]) (held .drive .p quiet) (fun _ => true) = true := by decide +kernel

/-- A tow link, so that DRIVE SET is busy. -/
theorem witness_BusyUnitAnswersBusy :
    instrFrame (.driveSet .p 1 0 [0, 0]) = some (.p, ⟨1, 0, 0x20, [0, 0]⟩) ∧ slotFree .p towing = true ∧
      towing.disp.attention.get .p = [] ∧ CmdName.ofCode 0x20 = some .driveSet ∧ unitFits .driveSet 0 = true ∧
      blockFits .driveSet [0, 0] = true ∧ heldByAnother .p .driveSet towing = false ∧
      busy .driveSet ⟨1, 0, 0x20, [0, 0]⟩ towing = true := by decide +kernel

/-- A FADE of the sender in the LIGHTS slot with the tag of its WINCH REFERENCE. -/
def fading : State := busyWith .lights ⟨.fade, some .w, 9, 0⟩ quiet

theorem witness_TagInUseIsRefused :
    instrFrame (.winchReference .w 9 2 []) = some (.w, ⟨9, 2, 0x43, []⟩) ∧ slotFree .w fading = true ∧
      fading.disp.attention.get .w = [] ∧ CmdName.ofCode 0x43 = some .winchReference ∧
      unitFits .winchReference 2 = true ∧ blockFits .winchReference [] = true ∧
      heldByAnother .w .winchReference fading = false ∧ busy .winchReference ⟨9, 2, 0x43, []⟩ fading = false ∧
      CmdName.winchReference.row.target ≠ some .lights ∧ fading.disp.op .lights = some ⟨.fade, some .w, 9, 0⟩ := by
  decide +kernel

/-- A port whose slot is taken. -/
def full : State := atPort .p (fun q => { q with slot := some ⟨1, 0, 0x20, [0, 0]⟩, status := some ⟨1, .good, []⟩ }) quiet

theorem witness_FullSlotLosesTheFrame :
    instrFrame (.stopAll .p 1 15 []) = some (.p, ⟨1, 15, 0x70, []⟩) ∧ full.powered = true ∧
      (full.ports.get .p).slot.isSome = true := by decide +kernel

/-! ## Witnesses: the links -/

theorem witness_CommandFrameBytesAreTheCommand :
    (List.replicate 48 (7 : Byte)).length ≤ 48 ∧ quiet.powered = true ∧ (quiet.ports.get .p).assembly = .hunt ∧
      (quiet.ports.get .p).buffer = [] ∧ arbitrate quiet = quiet := ⟨by decide, rfl, rfl, rfl, rfl⟩

theorem witness_BadCheckLeavesNoTrace :
    4 ≤ ([1, 2, 0, 0x20] : List Byte).length ∧ ([1, 2, 0, 0x20] : List Byte).length ≤ 52 ∧
      ([0, 0] : List Byte).length = 2 ∧ ([0, 0] : List Byte) ≠ checkBytes (byteOf 4 :: [1, 2, 0, 0x20]) ∧
      quiet.powered = true ∧ (quiet.ports.get .p).assembly = .hunt ∧ (quiet.ports.get .p).buffer = [] := by decide +kernel

/-- Port P one byte before the end of a frame with the given body. -/
def nearEnd (body : List Byte) : State :=
  atPort .p (fun q => { q with assembly := .check, buffer := ((frameOf body).drop 1).dropLast }) quiet

/-- The last byte of a frame with the given body. -/
def lastOf (body : List Byte) : Byte := (frameOf body).getLastD 0

theorem witness_CompletedFrameIsTaken_command :
    let s := nearEnd [1, 2, 5, 0x01]
    let buffer := (s.ports.get .p).buffer ++ [lastOf [1, 2, 5, 0x01]]
    s.powered = true ∧ assemblyFits (s.ports.get .p) = true ∧ (s.ports.get .p).assembly = .check ∧
      buffer.length = (byteAt buffer 0).toNat + 3 ∧ frameGood buffer = true ∧ byteAt buffer 1 = 1 := by decide +kernel

theorem witness_CompletedFrameIsTaken_other :
    let s := nearEnd [2, 2, 0, 0]
    let buffer := (s.ports.get .p).buffer ++ [lastOf [2, 2, 0, 0]]
    s.powered = true ∧ assemblyFits (s.ports.get .p) = true ∧ (s.ports.get .p).assembly = .check ∧
      buffer.length = (byteAt buffer 0).toNat + 3 ∧ frameGood buffer = true ∧ byteAt buffer 1 ≠ 1 := by decide +kernel

theorem witness_CompletedFrameIsTaken_bad :
    let s := nearEnd [1, 2, 5, 0x01]
    let buffer := (s.ports.get .p).buffer ++ [lastOf [1, 2, 5, 0x01] + 1]
    s.powered = true ∧ assemblyFits (s.ports.get .p) = true ∧ (s.ports.get .p).assembly = .check ∧
      buffer.length = (byteAt buffer 0).toNat + 3 ∧ frameGood buffer = false := by decide +kernel

theorem witness_AssemblyFollowsItsTable_hunt :
    let s := atPort .w (fun q => { q with assembly := .hunt, buffer := [] }) quiet
    s.powered = true ∧ (s.ports.get .w).assembly = .hunt := by decide +kernel

theorem witness_AssemblyFollowsItsTable_length :
    let s := atPort .w (fun q => { q with assembly := .length, buffer := [] }) quiet
    s.powered = true ∧ (s.ports.get .w).assembly = .length := by decide +kernel

theorem witness_AssemblyFollowsItsTable_body :
    let s := atPort .w (fun q => { q with assembly := .body, buffer := [4] }) quiet
    s.powered = true ∧ (s.ports.get .w).assembly = .body := by decide +kernel

theorem witness_AssemblyFollowsItsTable_check :
    let s := atPort .w (fun q => { q with assembly := .check, buffer := [4, 1, 1, 1, 1] }) quiet
    s.powered = true ∧ (s.ports.get .w).assembly = .check ∧
      (s.ports.get .w).buffer.length + 1 < (byteAt ((s.ports.get .w).buffer ++ [0]) 0).toNat + 3 := by decide +kernel

/-- A frame on the line. -/
def onLine (b : Bool) : TxFrame := ⟨b, [0xC5]⟩

theorem witness_SentStatusEmptiesTheSlot :
    let s := atPort .s (fun q => { q with tx := some (onLine true) }) quiet
    s.powered = true ∧ (s.ports.get .s).tx = some (onLine true) := by decide +kernel

theorem witness_ArbiterSendsTheStatusFirst_busy :
    ({ Port.reset none with tx := some (onLine false) } : Port).tx = some (onLine false) := rfl

theorem witness_ArbiterSendsTheStatusFirst_race :
    let q : Port := { Port.reset none with status := some ⟨1, .good, []⟩, notices := [.winch .load 1] }
    q.tx = none ∧ q.status ≠ none ∧ q.notices = .winch .load 1 :: [] := ⟨rfl, nofun, rfl⟩

theorem witness_ArbiterSendsTheStatusFirst_status :
    ({ Port.reset none with status := some ⟨1, .good, []⟩ } : Port).tx = none ∧
      ({ Port.reset none with status := some ⟨1, .good, []⟩ } : Port).status = some ⟨1, .good, []⟩ := ⟨rfl, rfl⟩

theorem witness_ArbiterSendsTheStatusFirst_notice :
    let q : Port := { Port.reset none with notices := [.winch .load 1] }
    q.tx = none ∧ q.status = none ∧ q.notices = .winch .load 1 :: [] := ⟨rfl, rfl, rfl⟩

theorem witness_ArbiterSendsTheStatusFirst_idle :
    (Port.reset none).tx = none ∧ (Port.reset none).status = none ∧ (Port.reset none).notices = [] := ⟨rfl, rfl, rfl⟩

theorem witness_OfferedNoticeIsKeptOrDropped :
    (Notice.winch .load 1).kindCode ≠ 0 := by decide +kernel

theorem witness_EndedOperationHandsItsDone :
    (fading.disp.op .lights) = some ⟨.fade, some .w, 9, 0⟩ := rfl

/-- Link W at its default timeout of 500 ms, with units as given. -/
def overdue (s : State) : State := atPort .w (fun q => { q with silence := some 500 }) s

theorem witness_SilenceAppliesFailsafe_drive :
    let s := overdue (held .drive .w quiet)
    s.powered = true ∧ (s.ports.get .w).link = .active ∧ timeoutOf s.chassis.profile .w ≠ 0 ∧
      (s.ports.get .w).silence = some 500 ∧ timeoutOf s.chassis.profile .w ≤ 500 ∧ towFits s ∧
      affectedBy .w .drive s ∧ s.winch.tow = none := by
  refine ⟨rfl, rfl, by decide +kernel, rfl, by decide +kernel, (by decide +kernel : quiet.drive.state ≠ .towing), .inl rfl, rfl⟩

theorem witness_SilenceAppliesFailsafe_tow :
    let s := overdue (towing)
    s.powered = true ∧ (s.ports.get .w).link = .active ∧ timeoutOf s.chassis.profile .w ≠ 0 ∧
      (s.ports.get .w).silence = some 500 ∧ timeoutOf s.chassis.profile .w ≤ 500 ∧ towFits s ∧
      s.winch.tow = some ⟨.w, 0⟩ := by
  refine ⟨rfl, rfl, by decide +kernel, rfl, by decide +kernel, ⟨rfl, rfl, rfl, .inl rfl, by decide +kernel⟩, rfl⟩

theorem witness_SilenceAppliesFailsafe_steer :
    let s := overdue (held .steer .w { quiet with chassis := { quiet.chassis with profile := Profile.defaults.set .failsafeSteering 1 } })
    s.powered = true ∧ (s.ports.get .w).link = .active ∧ timeoutOf s.chassis.profile .w ≠ 0 ∧
      (s.ports.get .w).silence = some 500 ∧ timeoutOf s.chassis.profile .w ≤ 500 ∧ towFits s ∧
      affectedBy .w .steer s ∧ s.chassis.profile.get .failsafeSteering = 1 := by
  refine ⟨rfl, rfl, by decide +kernel, rfl, by decide +kernel, (by decide +kernel : quiet.drive.state ≠ .towing), .inl rfl, by decide +kernel⟩

theorem witness_SilenceAppliesFailsafe_winch :
    let s := overdue (held .winch .w quiet)
    s.powered = true ∧ (s.ports.get .w).link = .active ∧ timeoutOf s.chassis.profile .w ≠ 0 ∧
      (s.ports.get .w).silence = some 500 ∧ timeoutOf s.chassis.profile .w ≤ 500 ∧ towFits s ∧
      affectedBy .w .winch s := by
  refine ⟨rfl, rfl, by decide +kernel, rfl, by decide +kernel, (by decide +kernel : quiet.drive.state ≠ .towing), .inl rfl⟩

theorem witness_SilenceAppliesFailsafe_none :
    let s := overdue (quiet)
    s.powered = true ∧ (s.ports.get .w).link = .active ∧ timeoutOf s.chassis.profile .w ≠ 0 ∧
      (s.ports.get .w).silence = some 500 ∧ timeoutOf s.chassis.profile .w ≤ 500 ∧ towFits s ∧
      ¬affectedBy .w .drive s ∧ ¬affectedBy .w .steer s ∧ ¬affectedBy .w .winch s := by
  refine ⟨rfl, rfl, by decide +kernel, rfl, by decide +kernel, (by decide +kernel : quiet.drive.state ≠ .towing), ?_, ?_, ?_⟩ <;> simp [affectedBy, overdue, atPort, quiet, State.reset, DispatcherState.reset, Holders.get, LastCommanders.get]

/-! ## Witnesses: dispatcher commands and STOP ALL -/

theorem witness_Reserve_free :
    admitted .reserve .w 1 1 [0] quiet = true ∧
      reservableUnit 1 = some .steer ∧ quiet.disp.holders.get .steer = none := by decide +kernel

theorem witness_Reserve_tow :
    admitted .reserve .p 1 0 [1] towing = true ∧
      reservableUnit 0 = some .drive ∧ towing.winch.tow.map TowLink.owner ≠ some .p := by decide +kernel

theorem witness_Reserve_own :
    admitted .reserve .w 1 2 [0] towing = true ∧
      reservableUnit 2 = some .winch ∧ towing.disp.holders.get .winch = some .w := by decide +kernel

theorem witness_Reserve_preempt :
    admitted .reserve .w 1 1 [1] (atPort .p (fun q => { q with link := .silent }) (held .steer .p quiet)) = true ∧
      (atPort .p (fun q => { q with link := .silent }) (held .steer .p quiet)).disp.holders.get .steer = some .p ∧
      ((atPort .p (fun q => { q with link := .silent }) (held .steer .p quiet)).ports.get .p).link = .silent := by decide +kernel

theorem witness_Reserve_refused :
    admitted .reserve .w 1 1 [1] (held .steer .p quiet) = true ∧
      (held .steer .p quiet).disp.holders.get .steer = some .p := by decide +kernel

theorem witness_Release_holder :
    admitted .release .w 1 2 [] towing = true ∧
      reservableUnit 2 = some .winch ∧ towing.winch.tow.map TowLink.owner = some .w := by decide +kernel

theorem witness_Release_other :
    admitted .release .s 1 2 [] towing = true ∧
      towing.disp.holders.get .winch ≠ some .s := by decide +kernel

theorem witness_ReportSense :
    admitted .reportSense .p 1 5 [] State.reset = true := by decide +kernel

theorem witness_SetNotices :
    admitted .setNotices .p 1 5 [0x1F] quiet = true := by decide +kernel

theorem witness_LinkReset_tow :
    admitted .linkReset .w 1 5 [] towing = true ∧ towFits towing ∧
      towing.winch.tow = some ⟨.w, 0⟩ := ⟨by decide +kernel, ⟨rfl, rfl, rfl, .inl rfl, by decide +kernel⟩, rfl⟩

theorem witness_LinkReset_ops :
    admitted .linkReset .w 1 5 [] fading = true ∧ towFits fading ∧
      fading.winch.tow = none ∧ fading.disp.lightsOp = some ⟨.fade, some .w, 9, 0⟩ ∧ fading.disp.winchOp = none := ⟨by decide +kernel, (by decide +kernel : quiet.drive.state ≠ .towing), rfl, rfl, rfl⟩

/-- A MOVE of link W. -/
def moving : State :=
  busyWith .winch ⟨.move, some .w, 9, 0⟩ (withWinch { Winch.reset with
    state := .move, referenced := true, runSpeed := 500, moveTarget := some 1000, moveDir := some .outward })

theorem witness_LinkReset_move :
    admitted .linkReset .w 1 5 [] moving = true ∧ towFits moving ∧
      moving.disp.winchOp = some ⟨.move, some .w, 9, 0⟩ ∧ moving.disp.lightsOp = none := ⟨by decide +kernel, (by decide +kernel : quiet.drive.state ≠ .towing), rfl, rfl⟩

theorem witness_StopAll :
    admitted .stopAll .s 1 15 [] State.reset = true := by decide +kernel

theorem witness_TowLinkEndHaltsTheDrive :
    let s := atPort .p (fun q => { q with mask := 4 }) towing
    s.winch.tow = some ⟨.w, 0⟩ ∧ s.drive.state = .towing ∧ (s.ports.get .p).mask.getLsbD 2 = true := by decide +kernel

/-! ## Witnesses: DRIVE, STEER and read commands -/

theorem witness_WideField_range :
    field4 2147483647 = bytes4 2147483647 ∧ field4 (-2147483648) = bytes4 (-2147483648) := ⟨rfl, rfl⟩

theorem witness_DriveSet :
    admitted .driveSet .p 1 0 [0xE8, 0x03] quiet = true ∧
      (quiet.wheels.list.filter fun c => c.state = .off).length = 0 ∧ quiet.drive.state ≠ .safeHold := by decide +kernel

theorem witness_DriveSet_safeHold :
    admitted .driveSet .p 1 0 [0, 0] { withWheel .fl { Channel.reset with state := .holdActive } with drive := { quiet.drive with state := .safeHold } } = true ∧
      (({ withWheel .fl { Channel.reset with state := .holdActive } with drive := { quiet.drive with state := .safeHold } } : State).wheels.list.filter fun c => c.state = .off).length = 0 := by decide +kernel

/-- R42: the request at an entry to HOLDING by any route (log entry 37). -/
theorem witness_DriveSet_safeHold_request :
    after (.driveSet .p 1 0 [0, 0]) { withWheel .fl { Channel.reset with state := .holdActive } with drive := { quiet.drive with state := .safeHold } }
      (fun t => t.drive.state = .holding ∧ t.wheels.fl.state = .hold) = true := by decide +kernel

theorem witness_DriveSet_latched :
    admitted .driveSet .p 1 0 [0, 0] (withWheel .fl { Channel.reset with state := .off }) = true ∧
      ((withWheel .fl { Channel.reset with state := .off }).wheels.list.filter fun c => c.state = .off).length ≠ 0 := by decide +kernel

theorem witness_DriveHold :
    admitted .driveHold .p 1 0 [] quiet = true := by decide +kernel

theorem witness_SteerSet :
    admitted .steerSet .p 1 1 [0x18, 0xFC] quiet = true := by decide +kernel

theorem witness_SteerMode :
    admitted .steerMode .p 1 1 [3, 0xE9, 0x03] quiet = true := by decide +kernel

theorem witness_SteerTrim :
    admitted .steerTrim .p 1 1 [1, 0x96, 0] quiet = true := by decide +kernel

theorem witness_Read_identify :
    admitted .identify .s 1 5 [] quiet = true := by decide +kernel

theorem witness_Read_reportDrive :
    admitted .reportDrive .s 1 0 [] quiet = true := by decide +kernel

theorem witness_Read_reportSteer :
    admitted .reportSteer .s 1 1 [] quiet = true := by decide +kernel

theorem witness_Read_reportWinch :
    admitted .reportWinch .s 1 2 [] quiet = true := by decide +kernel

theorem witness_Read_reportSupply :
    admitted .reportSupply .s 1 4 [] quiet = true := by decide +kernel

theorem witness_Read_reportLights :
    admitted .reportLights .s 1 3 [4, 63] quiet = true := by decide +kernel

theorem witness_Read_profileRead :
    admitted .profileRead .s 1 5 [102] quiet = true ∧
      Field.ofNumber 102 = some (.silenceTimeout .s) ∧ Field.ofNumber 103 = none := by decide +kernel

/-! ## Witnesses: WINCH commands -/

theorem witness_WinchRun_in :
    admitted .winchRun .w 1 2 [0, 0xE8, 0x03] quiet = true := by decide +kernel

theorem witness_WinchRun_loadHold :
    admitted .winchRun .w 1 2 [0, 1, 0] (withWinch { Winch.reset with state := .loadHold }) = true := by decide +kernel

theorem witness_WinchRun_payout :
    admitted .winchRun .w 1 2 [1, 0, 0] (withWinch { Winch.reset with referenced := true, count := 28800 }) = true ∧
      Profile.defaults.get .payoutLimit ≤ Int.tdiv (28800 * 100) (Profile.defaults.get .cp100) := by decide +kernel

theorem witness_WinchStop :
    admitted .winchStop .w 1 2 [] moving = true := by decide +kernel

theorem witness_WinchFree_on :
    admitted .winchFree .w 1 2 [1] quiet = true := by decide +kernel

theorem witness_WinchFree_off :
    admitted .winchFree .w 1 2 [0] (withWinch { Winch.reset with state := .free }) = true := by decide +kernel

theorem witness_WinchToLength_cutoff :
    admitted .winchToLength .w 1 2 [0, 0, 0, 0] (inStage .cutoff) = true := by decide +kernel

theorem witness_WinchToLength_unreferenced :
    admitted .winchToLength .w 1 2 [0, 0, 0, 0] quiet = true ∧
      quiet.winch.referenced = false := by decide +kernel

theorem witness_WinchToLength_loadHold :
    admitted .winchToLength .w 1 2 [0, 0, 0, 0] (withWinch { Winch.reset with state := .loadHold, referenced := true }) = true := by decide +kernel

theorem witness_WinchToLength_move :
    admitted .winchToLength .w 1 2 [0xE0, 0x2E, 0, 0] (withWinch { Winch.reset with referenced := true }) = true := by decide +kernel

theorem witness_WinchReference :
    admitted .winchReference .w 1 2 [] quiet = true := by decide +kernel

theorem witness_WinchReference_loadHold :
    admitted .winchReference .w 1 2 [] (withWinch { Winch.reset with state := .loadHold }) = true := by decide +kernel

theorem witness_TowAssistOn_own :
    admitted .towAssist .w 1 2 [1] towing = true ∧
      towing.winch.tow.map TowLink.owner = some .w := by decide +kernel

theorem witness_TowAssistOn_unheld :
    admitted .towAssist .w 1 2 [1] quiet = true ∧
      quiet.disp.holders.winch ≠ some .w := by decide +kernel

theorem witness_TowAssistOn_drive :
    admitted .towAssist .w 1 2 [1] (held .drive .p (held .winch .w quiet)) = true := by decide +kernel

theorem witness_TowAssistOn_cutoff :
    admitted .towAssist .w 1 2 [1] (held .winch .w (inStage .cutoff)) = true := by decide +kernel

theorem witness_TowAssistOn_created :
    admitted .towAssist .w 1 2 [1] (held .winch .w quiet) = true := by decide +kernel

theorem witness_TowAssistOff :
    admitted .towAssist .w 1 2 [0] towing = true := by decide +kernel

/-! ## Witnesses: LIGHTS commands -/

theorem witness_LightWrite_last :
    admitted .lightWrite .p 1 3 ([63, 1] ++ List.replicate 24 255) lit = true ∧
      (63 : Nat) < 64 := by decide +kernel

theorem witness_LightWrite_beyond :
    admitted .lightWrite .p 1 3 ([64, 0] ++ List.replicate 24 0) lit = true ∧
      64 ≤ (byteAt ([64, 0] ++ List.replicate 24 0) 0).toNat := by decide +kernel

theorem witness_LightDefine_refused :
    admitted .lightDefine .p 1 3 [16, 1, 0, 1, 1, 0] quiet = true := by decide +kernel

theorem witness_LightDefine_off :
    admitted .lightDefine .p 1 3 [15, 0, 0, 0, 0, 0] quiet = true := by decide +kernel

theorem witness_LightDefine_frame :
    admitted .lightDefine .p 1 3 [0, 1, 64, 1, 1, 0] quiet = true := by decide +kernel

theorem witness_LightDefine_range :
    admitted .lightDefine .p 1 3 [0, 1, 63, 2, 1, 0] quiet = true := by decide +kernel

theorem witness_LightDefine_stored :
    admitted .lightDefine .p 1 3 [0, 1, 63, 1, 101, 1] quiet = true := by decide +kernel

theorem witness_ShowPattern_undefined :
    admitted .showPattern .p 1 3 [0, 2, 0, 0, 0, 0, 0] lit = true ∧
      (byteAt [0, 2, 0, 0, 0, 0, 0] 0).toNat = 0 ∧ (lit.lights.defn 2).defined = false := by decide +kernel

theorem witness_ShowPattern_defined :
    admitted .showPattern .p 1 3 [0, 1, 2, 65, 255, 9, 0] lit = true ∧
      (lit.lights.defn 1).defined = true := by decide +kernel

theorem witness_ShowPattern_level :
    admitted .showPattern .p 1 3 [1, 255, 1, 0, 0, 0, 0] lit = true ∧
      (byteAt [1, 255, 1, 0, 0, 0, 0] 0).toNat ≠ 0 := by decide +kernel

theorem witness_OverlaySet_shown :
    admitted .overlaySet .p 1 3 [1, 1] lit = true ∧
      (1 : Nat) < 16 ∧ (lit.lights.defn 1).defined = true := by decide +kernel

theorem witness_OverlaySet_refused :
    admitted .overlaySet .p 1 3 [254, 0] lit = true := by decide +kernel

theorem witness_LightAuto :
    admitted .lightAuto .p 1 3 [0] lit = true := by decide +kernel

/-! ## Witnesses: SUPPLY and CHASSIS commands -/

/-- CUTOFF with a V_comp. -/
def cutAt (v : Nat) : State := { inStage .cutoff with supply := { (inStage .cutoff).supply with vComp := v } }

theorem witness_SupplyClear_none :
    admitted .supplyClear .s 1 4 [] quiet = true ∧
      quiet.supply.stage ≠ .cutoff := by decide +kernel

theorem witness_SupplyClear_low :
    admitted .supplyClear .s 1 4 [] (cutAt 3549) = true ∧
      (cutAt 3549).supply.stage = .cutoff ∧ (cutAt 3549).supply.vComp < quiet.chassis.profile.nat .thresholdLimit + quiet.chassis.profile.nat .hysteresis := by decide +kernel

theorem witness_SupplyClear_high :
    admitted .supplyClear .s 1 4 [] (cutAt 3550) = true ∧
      (cutAt 3550).supply.stage = .cutoff ∧ quiet.chassis.profile.nat .thresholdLimit + quiet.chassis.profile.nat .hysteresis ≤ (cutAt 3550).supply.vComp := by decide +kernel

theorem witness_ProfileWrite_unknown :
    admitted .profileWrite .p 1 5 [37, 0, 0, 0, 0] quiet = true ∧
      Field.ofNumber (byteAt [37, 0, 0, 0, 0] 0).toNat = none := by decide +kernel

theorem witness_ProfileWrite_order :
    admitted .profileWrite .p 1 5 [51, 0xD0, 0x07, 0, 0] { quiet with chassis := { quiet.chassis with profile := Profile.defaults.set .lightsLimit 1999 } } = true ∧
      Field.ofNumber (byteAt [51, 0xD0, 0x07, 0, 0] 0).toNat = some .lightsFloor ∧
      orderRulesFor .lightsFloor ((Profile.defaults.set .lightsLimit 1999).set .lightsFloor
        (clampField .lightsFloor (s32At [51, 0xD0, 0x07, 0, 0] 1))) = false := by decide +kernel

theorem witness_ProfileWrite_stored :
    admitted .profileWrite .p 1 5 [1, 0xFF, 0xFF, 0xFF, 0xFF] quiet = true ∧
      Field.ofNumber (byteAt [1, 0xFF, 0xFF, 0xFF, 0xFF] 0).toNat = some .deadband ∧
      orderRulesFor .deadband (quiet.chassis.profile.set .deadband
        (clampField .deadband (s32At [1, 0xFF, 0xFF, 0xFF, 0xFF] 1))) = true := by decide +kernel

theorem witness_FieldEffects :
    Field.deadband ≠ .lockAngle ∧ Field.deadband ≠ .cp100 ∧ Field.deadband ≠ .payoutLimit ∧ ∀ l, Field.deadband ≠ .silenceTimeout l := ⟨by decide, by decide, by decide, fun l => by simp⟩

theorem witness_Commit_ready :
    admitted .profileCommit .p 1 5 [] quiet = true := by decide +kernel

theorem witness_Commit_settling :
    admitted .profileCommit .p 1 5 [] (imageIn .settling) = true := by decide +kernel

theorem witness_Commit_complete :
    writing.powered = true ∧ writing.chassis.imageState = .writing ∧ writing.chassis.snapshot = some plain := ⟨rfl, rfl, rfl⟩

theorem witness_Commit_settled :
    let s : State := { quiet with chassis := { quiet.chassis with imageState := .settling, settleElapsed := 20 } }
    s.powered = true ∧ s.chassis.imageState = .settling ∧ 20 ≤ s.chassis.settleElapsed := by decide +kernel

theorem witness_Restore_settling :
    admitted .profileRestore .p 1 5 [] (imageIn .settling) = true ∧
      (imageIn .settling).chassis.imageState = .settling := by decide +kernel

theorem witness_Restore_ready :
    admitted .profileRestore .p 1 5 [] quiet = true ∧
      quiet.chassis.imageState = .ready := by decide +kernel

theorem witness_ChassisReset_settling :
    admitted .chassisReset .p 1 5 [] (imageIn .settling) = true ∧
      (imageIn .settling).chassis.imageState = .settling := by decide +kernel

theorem witness_ChassisReset_ready :
    admitted .chassisReset .p 1 5 [] quiet = true ∧
      quiet.chassis.imageState = .ready := by decide +kernel

theorem witness_Restore_good :
    let s : State := { quiet with chassis := { quiet.chassis with image := closedImage plain } }
    admitted .profileRestore .p 1 5 [] s = true ∧ s.chassis.imageState = .ready ∧ s.chassis.image.good = true := by
  refine ⟨by decide +kernel, rfl, ?_⟩
  simp [closedImage, Image.good]

theorem witness_Restore_bad :
    admitted .profileRestore .p 1 5 [] quiet = true ∧ quiet.chassis.imageState = .ready ∧
      quiet.chassis.image.good = false ∧ quiet.winch.state ≠ .move ∧ quiet.winch.state ≠ .runOut := ⟨by decide +kernel, rfl, blank_bad, nofun, nofun⟩

theorem witness_ChassisReset_good :
    let s : State := { quiet with chassis := { quiet.chassis with image := closedImage plain } }
    admitted .chassisReset .p 1 5 [] s = true ∧ s.chassis.imageState = .ready ∧ s.chassis.image.good = true := by
  refine ⟨by decide +kernel, rfl, ?_⟩
  simp [closedImage, Image.good]

/-- Link W reaches the timeout of the defaults that the reset loads (500 ms), and link P, which sends the command, does
not. -/
theorem witness_ChassisReset_due :
    let s := overdue quiet
    let r := taken .p ⟨1, 5, 0x02, []⟩ s
    admitted .chassisReset .p 1 5 [] s = true ∧ s.chassis.imageState = .ready ∧ s.chassis.image.good = false ∧
      (r.ports.get .w).link = .active ∧ Profile.defaults.nat (.silenceTimeout .w) = 500 ∧
      (r.ports.get .w).silence = some 500 ∧ (r.ports.get .p).silence = some 0 :=
  ⟨by decide +kernel, rfl, blank_bad, rfl, by decide +kernel, rfl, by decide +kernel⟩

/-! ## Witnesses: motion, steering and the wheels -/

theorem witness_MotionPeriod :
    let s : State := { quiet with drive := { quiet.drive with state := .driving, b := 40 } }
    s.powered = true ∧ s.drive.state = .driving ∧
      after (.motionPeriod 0) s (fun n => n.drive.state = .holding) = true := by decide +kernel

theorem witness_MotionPeriod_other :
    quiet.powered = true ∧ ¬(quiet.drive.state = .driving) := by decide +kernel

theorem witness_ServoFrame :
    quiet.powered = true := rfl

theorem witness_Tangent :
    (39 : Nat) < 40 ∧ 0 < 9 ∧ 9 < 10 ∧ (40 : Nat) ≤ 40 := by decide +kernel

/-- A wheel in a state, as it stands after power-on. -/
def wheelIs (st : ChannelState) : State := withWheel .fr { Channel.reset with state := st }

theorem witness_Regulator :
    let s := wheelIs .run
    s.powered = true ∧ (s.wheels.get .fr).state = .run ∧ ((min 20000 45000 : Nat) : Int) ≤ s.chassis.profile.get .faultTrip ∧
      ¬(s.chassis.profile.nat .stallTime ≤ (s.wheels.get .fr).stallTimer + 1) := by decide +kernel

theorem witness_Regulator_fromHold :
    let s := withWheel .fr { Channel.reset with target := 1 }
    s.powered = true ∧ (s.wheels.get .fr).target ≠ 0 ∧ 1 < s.chassis.profile.nat .stallTime ∧
      (s.wheels.get .fr).state = .hold := by decide +kernel

theorem witness_Regulator_fromHoldActive :
    let s := withWheel .fr { Channel.reset with target := -1, state := .holdActive, settle := 198 }
    let c := s.wheels.get .fr
    s.powered = true ∧ c.target ≠ 0 ∧ 1 < s.chassis.profile.nat .stallTime ∧ c.state = .holdActive ∧
      ((min 20000 45000 : Nat) : Int) ≤ s.chassis.profile.get .faultTrip ∧ s.supply.stage ≠ .cutoff ∧
      ¬(clampInt (-30000) 30000 ((c.window.drop 1 ++ [0]).sum * 50) = 0 ∧ 200 ≤ c.settle + 1) := by decide +kernel

theorem witness_Trip :
    let s := wheelIs .stall
    s.powered = true ∧ (s.wheels.get .fr).state = .stall ∧ s.chassis.profile.get .faultTrip < ((min 20001 45000 : Nat) : Int) := by decide +kernel

/-- A wheel in RUN at full duty that does not turn, one period before the stall time. -/
def jammed (target : Int) : State :=
  withWheel .fr { Channel.reset with state := .run, target := target, d := 1000, ePrev := target, stallTimer := 399 }

theorem witness_StallTime_target :
    let s := jammed 500
    let p := s.chassis.profile
    let c := s.wheels.get .fr
    let m := clampInt (-30000) 30000 ((c.window.drop 1 ++ [0]).sum * 50)
    let e := c.target - m
    let d := clampInt (-1000) 1000 (c.d + Int.tdiv (p.get .kp * (e - c.ePrev) + p.get .ki * e) 256)
    s.powered = true ∧ c.state = .run ∧ ((min 20000 45000 : Nat) : Int) ≤ p.get .faultTrip ∧ p.get .stallDuty ≤ mag d ∧
      mag m ≤ p.get .stallSpeed ∧ p.nat .stallTime ≤ c.stallTimer + 1 ∧ c.target = 500 := by decide +kernel

theorem witness_StallTime_zero :
    let s := jammed 0
    let p := s.chassis.profile
    let c := s.wheels.get .fr
    let m := clampInt (-30000) 30000 ((c.window.drop 1 ++ [0]).sum * 50)
    let e := c.target - m
    let d := clampInt (-1000) 1000 (c.d + Int.tdiv (p.get .kp * (e - c.ePrev) + p.get .ki * e) 256)
    s.powered = true ∧ c.state = .run ∧ ((min 20000 45000 : Nat) : Int) ≤ p.get .faultTrip ∧ p.get .stallDuty ≤ mag d ∧
      mag m ≤ p.get .stallSpeed ∧ p.nat .stallTime ≤ c.stallTimer + 1 ∧ c.target = 0 := by decide +kernel

theorem witness_HoldCreep :
    let s := withWheel .fr { Channel.reset with creep := 20 }
    let c := s.wheels.get .fr
    s.powered = true ∧ c.state = .hold ∧ c.target = 0 ∧ s.chassis.profile.nat .holdCreep ≠ 0 ∧
      s.supply.stage ≠ .cutoff ∧ s.chassis.profile.nat .holdCreep < c.creep + (-1 : Int).natAbs := by decide +kernel

theorem witness_HoldStays_below :
    let s : State := { inStage .normal with
      wheels := quiet.wheels.set .fr { Channel.reset with creep := 19 }
      chassis := { quiet.chassis with profile := Profile.defaults } }
    let c := s.wheels.get .fr
    s.powered = true ∧ c.state = .hold ∧ c.target = 0 ∧ c.creep + (-1 : Int).natAbs ≤ s.chassis.profile.nat .holdCreep := by decide +kernel

theorem witness_HoldStays_off :
    let s : State := { inStage .normal with
      wheels := quiet.wheels.set .fr { Channel.reset with creep := 99 }
      chassis := { quiet.chassis with profile := Profile.defaults.set .holdCreep 0 } }
    let c := s.wheels.get .fr
    s.powered = true ∧ c.state = .hold ∧ c.target = 0 ∧ s.chassis.profile.nat .holdCreep = 0 := by decide +kernel

theorem witness_HoldStays_cutoff :
    let s : State := { inStage .cutoff with
      wheels := quiet.wheels.set .fr { Channel.reset with creep := 99 }
      chassis := { quiet.chassis with profile := Profile.defaults } }
    let c := s.wheels.get .fr
    s.powered = true ∧ c.state = .hold ∧ c.target = 0 ∧ s.supply.stage = .cutoff := by decide +kernel

theorem witness_HoldActive_goesOn :
    let s : State := { inStage .normal with
      wheels := quiet.wheels.set .fr { Channel.reset with state := .holdActive, settle := 198 } }
    let c := s.wheels.get .fr
    s.powered = true ∧ c.state = .holdActive ∧ c.target = 0 ∧
      ((min 20000 45000 : Nat) : Int) ≤ s.chassis.profile.get .faultTrip ∧ s.supply.stage ≠ .cutoff ∧
      ¬(clampInt (-30000) 30000 ((c.window.drop 1 ++ [0]).sum * 50) = 0 ∧ 200 ≤ c.settle + 1) := by decide +kernel

theorem witness_HoldActive_cutoff :
    let s : State := { inStage .cutoff with
      wheels := quiet.wheels.set .fr { Channel.reset with state := .holdActive, settle := 198 } }
    let c := s.wheels.get .fr
    s.powered = true ∧ c.state = .holdActive ∧ c.target = 0 ∧
      ((min 20000 45000 : Nat) : Int) ≤ s.chassis.profile.get .faultTrip ∧ s.supply.stage = .cutoff := by decide +kernel

theorem witness_HoldSettle :
    let s := withWheel .fr { Channel.reset with state := .holdActive, settle := 199 }
    let c := s.wheels.get .fr
    s.powered = true ∧ c.state = .holdActive ∧ c.target = 0 ∧
      ((min 20000 45000 : Nat) : Int) ≤ s.chassis.profile.get .faultTrip ∧
      clampInt (-30000) 30000 ((c.window.drop 1 ++ [0]).sum * 50) = 0 ∧ 200 ≤ c.settle + 1 := by decide +kernel

theorem witness_StallRest :
    let s := withWheel .fr { Channel.reset with state := .stall, target := 500, rest := 799 }
    let c := s.wheels.get .fr
    s.powered = true ∧ 1 < s.chassis.profile.nat .stallTime ∧ c.state = .stall ∧
      ((min 20000 45000 : Nat) : Int) ≤ s.chassis.profile.get .faultTrip ∧
      s.chassis.profile.nat .stallRest ≤ c.rest + 1 := by decide +kernel

theorem witness_FaultRest_hold :
    let s := withWheel .fr { Channel.reset with state := .fault, target := 0, rest := 199, history := .armed 199 }
    let c := s.wheels.get .fr
    s.powered = true ∧ 1 < s.chassis.profile.nat .stallTime ∧ c.state = .fault ∧ 200 ≤ c.rest + 1 ∧ c.target = 0 := by decide +kernel

theorem witness_FaultRest_run :
    let s := withWheel .fr { Channel.reset with state := .fault, target := 500, rest := 199, history := .armed 199 }
    let c := s.wheels.get .fr
    s.powered = true ∧ 1 < s.chassis.profile.nat .stallTime ∧ c.state = .fault ∧ 200 ≤ c.rest + 1 ∧ c.target = 500 := by decide +kernel

theorem witness_Stall_zero :
    let s := withWheel .fr { Channel.reset with state := .stall, target := 0, stallPositive := true, rest := 798 }
    let c := s.wheels.get .fr
    s.powered = true ∧ 1 < s.chassis.profile.nat .stallTime ∧ c.state = .stall ∧
      ((min 20000 45000 : Nat) : Int) ≤ s.chassis.profile.get .faultTrip ∧
      c.rest + 1 < s.chassis.profile.nat .stallRest ∧ c.target = 0 := by decide +kernel

theorem witness_Stall_reversed :
    let s := withWheel .fr { Channel.reset with state := .stall, target := -500, stallPositive := true, rest := 798 }
    let c := s.wheels.get .fr
    s.powered = true ∧ 1 < s.chassis.profile.nat .stallTime ∧ c.state = .stall ∧
      ((min 20000 45000 : Nat) : Int) ≤ s.chassis.profile.get .faultTrip ∧
      c.rest + 1 < s.chassis.profile.nat .stallRest ∧ decide (0 < c.target) ≠ c.stallPositive := by decide +kernel

theorem witness_Stall_kept :
    let s := withWheel .fr { Channel.reset with state := .stall, target := 500, stallPositive := true, rest := 798 }
    let c := s.wheels.get .fr
    s.powered = true ∧ 1 < s.chassis.profile.nat .stallTime ∧ c.state = .stall ∧
      ((min 20000 45000 : Nat) : Int) ≤ s.chassis.profile.get .faultTrip ∧
      c.rest + 1 < s.chassis.profile.nat .stallRest ∧ c.target ≠ 0 ∧ decide (0 < c.target) = c.stallPositive := by decide +kernel

theorem witness_Stall_keptBack :
    let s := withWheel .fr { Channel.reset with state := .stall, target := -500, stallPositive := false, rest := 798 }
    let c := s.wheels.get .fr
    s.powered = true ∧ 1 < s.chassis.profile.nat .stallTime ∧ c.state = .stall ∧
      ((min 20000 45000 : Nat) : Int) ≤ s.chassis.profile.get .faultTrip ∧
      c.rest + 1 < s.chassis.profile.nat .stallRest ∧ c.target ≠ 0 ∧ decide (0 < c.target) = c.stallPositive := by decide +kernel

theorem witness_FaultAndOff :
    let s : State := { quiet with wheels :=
      (quiet.wheels.set .fr { Channel.reset with state := .fault, rest := 198 }).set .rl { Channel.reset with state := .off } }
    s.powered = true ∧ (s.wheels.get .fr).state = .fault ∧ (s.wheels.get .fr).rest + 1 < 200 ∧
      (s.wheels.get .rl).state = .off := by decide +kernel

theorem witness_FaultWindow :
    let s := withWheel .fr { Channel.reset with state := .run, history := .armed 1999 }
    s.powered = true ∧ (s.wheels.get .fr).history = .armed 1999 ∧ 2000 ≤ 1999 + 1 ∧
      ((min 0 45000 : Nat) : Int) ≤ s.chassis.profile.get .faultTrip := by decide +kernel

theorem witness_FaultWindow_undriven :
    let s := withWheel .fr { Channel.reset with state := .fault, history := .armed 1999 }
    s.powered = true ∧ (s.wheels.get .fr).history = .armed 1999 ∧ (s.wheels.get .fr).state.driven = false := by decide +kernel

/-! ## Witnesses: the winch -/

theorem witness_DrumCount_other :
    quiet.powered = true ∧ quiet.winch.state ≠ .move ∧ quiet.winch.state ≠ .runOut := by decide +kernel

theorem witness_DrumCount_runOut :
    let s := withWinch { Winch.reset with state := .runOut, referenced := true, count := 28799 }
    s.powered = true ∧ s.winch.state = .runOut ∧ s.winch.referenced = true ∧
      s.chassis.profile.get .payoutLimit ≤ Int.tdiv ((s.winch.count + 1) * 100) (s.chassis.profile.get .cp100) := by decide +kernel

theorem witness_DrumCount_move :
    moving.powered = true ∧ moving.winch.state = .move ∧ moving.winch.moveTarget = some 1000 ∧
      moving.winch.moveDir = some .outward ∧ profileFits moving.chassis.profile = true ∧
      1000 ≤ moving.chassis.profile.nat .payoutLimit := by decide +kernel

theorem witness_WinchPeriod_runIn :
    (withWinch { Winch.reset with state := .runIn, loadTimer := 80 }).powered = true ∧
      (withWinch { Winch.reset with state := .runIn, loadTimer := 80 }).winch.state = .runIn ∧ 80 + 10 < 100 := by decide +kernel

theorem witness_WinchPeriod_runOut :
    (withWinch { Winch.reset with state := .runOut, loadTimer := 80 }).powered = true ∧
      (withWinch { Winch.reset with state := .runOut, loadTimer := 80 }).winch.state = .runOut ∧ 80 + 10 < 100 := by decide +kernel

theorem witness_WinchPeriod_loadHold :
    (withWinch { Winch.reset with state := .loadHold, loadTimer := 80 }).powered = true ∧
      (withWinch { Winch.reset with state := .loadHold, loadTimer := 80 }).winch.state = .loadHold ∧ 80 + 10 < 100 := by decide +kernel

theorem witness_WinchPeriod_free :
    (withWinch { Winch.reset with state := .free, loadTimer := 80 }).powered = true ∧
      (withWinch { Winch.reset with state := .free, loadTimer := 80 }).winch.state = .free ∧ 80 + 10 < 100 := by decide +kernel

/-- A REFERENCE of link W since the clock's 0. -/
def referencing (timer now : Nat) : State :=
  { busyWith .winch ⟨.reference, some .w, 9, 0⟩ (withWinch { Winch.reset with state := .reference, refTimer := timer })
    with now := now }

theorem witness_WinchPeriod_moveIn :
    let s := withWinch { Winch.reset with
      state := .move, loadTimer := 80, moveDir := some .inward, moveTarget := some 100, count := 243 }
    let mm := Int.tdiv (s.winch.count * 100) (s.chassis.profile.get .cp100)
    s.powered = true ∧ s.winch.state = .move ∧ s.winch.moveDir = some .inward ∧ s.winch.moveTarget = some 100 ∧
      ((100 : Nat) : Int) < mm ∧ s.winch.loadTimer + 10 < 100 := by decide +kernel

theorem witness_WinchPeriod_moveOut :
    let s := withWinch { Winch.reset with
      state := .move, loadTimer := 80, moveDir := some .outward, moveTarget := some 100, count := 239 }
    let mm := Int.tdiv (s.winch.count * 100) (s.chassis.profile.get .cp100)
    s.powered = true ∧ s.winch.state = .move ∧ s.winch.moveDir = some .outward ∧ s.winch.moveTarget = some 100 ∧
      mm < ((100 : Nat) : Int) := by decide +kernel

theorem witness_WinchPeriod_moveInEnd :
    let s := withWinch { Winch.reset with
      state := .move, loadTimer := 80, moveDir := some .inward, moveTarget := some 100, count := 242 }
    let mm := Int.tdiv (s.winch.count * 100) (s.chassis.profile.get .cp100)
    s.powered = true ∧ s.winch.state = .move ∧ s.winch.moveDir = some .inward ∧ s.winch.moveTarget = some 100 ∧
      mm ≤ ((100 : Nat) : Int) := by decide +kernel

theorem witness_WinchPeriod_moveOutEnd :
    let s := withWinch { Winch.reset with
      state := .move, loadTimer := 80, moveDir := some .outward, moveTarget := some 100, count := 240 }
    let mm := Int.tdiv (s.winch.count * 100) (s.chassis.profile.get .cp100)
    s.powered = true ∧ s.winch.state = .move ∧ s.winch.moveDir = some .outward ∧ s.winch.moveTarget = some 100 ∧
      ((100 : Nat) : Int) ≤ mm := by decide +kernel

theorem witness_WinchPeriod_reference :
    let s := referencing 30 19999
    s.powered = true ∧ s.winch.state = .reference ∧ s.winch.refTimer + 10 < 50 ∧ s.winch.loadTimer + 10 < 100 ∧
      s.disp.winchOp = some ⟨.reference, some .w, 9, 0⟩ ∧ s.now - 0 < 20000 := by decide +kernel

theorem witness_ReferenceDetected :
    let s := referencing 40 100
    s.powered = true ∧ s.winch.state = .reference ∧ s.chassis.profile.nat .referenceCurrent < min 2501 40000 ∧
      50 ≤ s.winch.refTimer + 10 := by decide +kernel

theorem witness_ReferenceTimeout :
    let s := referencing 40 20000
    s.powered = true ∧ s.winch.state = .reference ∧ s.disp.winchOp = some ⟨.reference, some .w, 9, 0⟩ ∧
      ¬(s.chassis.profile.nat .referenceCurrent < min 2500 40000) ∧ 20000 ≤ s.now - 0 := by decide +kernel

theorem witness_LoadHold_run :
    let s := withWinch { Winch.reset with state := .runIn, loadTimer := 90 }
    s.powered = true ∧ s.chassis.profile.nat .loadCurrent < min 12001 40000 ∧ 100 ≤ s.winch.loadTimer + 10 ∧
      s.winch.state = .runIn := by decide +kernel

theorem witness_LoadHold_move :
    let s := withWinch { Winch.reset with
      state := .move, loadTimer := 90, moveDir := some .inward, moveTarget := some 0, count := 240 }
    s.powered = true ∧ s.chassis.profile.nat .loadCurrent < min 12001 40000 ∧ 100 ≤ s.winch.loadTimer + 10 ∧
      s.winch.state = .move ∧ s.winch.moveDir = some .inward ∧ s.winch.moveTarget = some 0 ∧
      ((0 : Nat) : Int) < Int.tdiv (s.winch.count * 100) (s.chassis.profile.get .cp100) := by decide +kernel

/-! ## Witnesses: the supply and the allocation -/

theorem witness_SupplyPeriod :
    quiet.powered = true := rfl

theorem witness_FirstPeriod_3600 :
    let s : State := { quiet with supply := Supply.reset }
    s.powered = true ∧ s.supply.initialPending = true ∧
      after (.supplyPeriod (cellsAt 3600) 0) s (fun n => decide (n.supply.x = .normal)) = true := by decide +kernel

theorem witness_FirstPeriod_3599 :
    let s : State := { quiet with supply := Supply.reset }
    s.powered = true ∧ s.supply.initialPending = true ∧
      after (.supplyPeriod (cellsAt 3599) 0) s (fun n => decide (n.supply.x ≠ .normal)) = true := by decide +kernel

theorem witness_CutoffKept :
    (inStage .cutoff).powered = true ∧ (inStage .cutoff).supply.initialPending = false ∧ (inStage .cutoff).supply.stage = .cutoff := ⟨rfl, rfl, rfl⟩

theorem witness_DwellDown_limit :
    let s : State := { inStage .conserve with supply := { (inStage .conserve).supply with down := 490, candidate := some .cutoff } }
    let p := s.chassis.profile
    let now := classify p (supplyMeasure p (cellsAt 3449) 0 s.supply).vComp
    s.powered = true ∧ s.supply.initialPending = false ∧ s.supply.stage ≠ .cutoff ∧ now = .limit ∧
      s.supply.stage.code < now.code ∧ p.nat .dwellDown ≤ s.supply.down + 10 := by decide +kernel

theorem witness_DwellDown_cutoff :
    let s : State := { inStage .conserve with supply := { (inStage .conserve).supply with down := 490, candidate := some .cutoff } }
    let p := s.chassis.profile
    let now := classify p (supplyMeasure p (cellsAt 3299) 0 s.supply).vComp
    s.powered = true ∧ s.supply.initialPending = false ∧ s.supply.stage ≠ .cutoff ∧ now = .cutoff ∧
      s.supply.stage.code < now.code ∧ p.nat .dwellDown ≤ s.supply.down + 10 := by decide +kernel

theorem witness_DwellUp_conserve :
    let s : State := { inStage .conserve with supply := { (inStage .conserve).supply with up := 1990 } }
    let p := s.chassis.profile
    let comp := (supplyMeasure p (cellsAt 3700) 0 s.supply).vComp
    s.powered = true ∧ s.supply.initialPending = false ∧ s.supply.stage = .conserve ∧
      (if s.supply.stage = .conserve then p.nat .thresholdConserve else p.nat .thresholdLimit) + p.nat .hysteresis
        ≤ comp ∧
      (classify p comp).code ≤ s.supply.stage.code ∧ p.nat .dwellUp ≤ s.supply.up + 10 := by decide +kernel

theorem witness_DwellUp_limit :
    let s : State := { inStage .limit with supply := { (inStage .limit).supply with up := 1990 } }
    let p := s.chassis.profile
    let comp := (supplyMeasure p (cellsAt 3550) 0 s.supply).vComp
    s.powered = true ∧ s.supply.initialPending = false ∧ s.supply.stage = .limit ∧
      (if s.supply.stage = .conserve then p.nat .thresholdConserve else p.nat .thresholdLimit) + p.nat .hysteresis
        ≤ comp ∧
      (classify p comp).code ≤ s.supply.stage.code ∧ p.nat .dwellUp ≤ s.supply.up + 10 := by decide +kernel

/-- An allocation in NORMAL with the given currents and the factors at 1024. -/
def shared (tow : Bool) (iD iW : Nat) : Alloc := allocate Profile.defaults .normal tow 600 iD iW 1500 Alloc.reset

theorem witness_Allocation_orders :
    Stage.normal ≠ .cutoff ∧ (shared false 26000 0).capD < 26000 ∧ 0 < (shared false 26000 0).capD ∧
      (shared true 0 16000).capW < 16000 ∧ 1000 ≤ (shared true 1000 0).capD := by decide +kernel

theorem witness_Allocation_capZero :
    let p := Profile.defaults.set .driveLimit 0
    (allocate p .normal false 0 1 0 0 Alloc.reset).capD = 0 ∧ (allocate p .normal false 0 1 0 0 Alloc.reset).capD < 1 ∧
      (allocate p .cutoff false 0 1 0 0 Alloc.reset).capL = p.nat .lightsFloor := by decide +kernel

theorem witness_LightsGovernor :
    let p := Profile.defaults.set .lightsFloor 0
    1500 ≤ (shared false 0 0).capL ∧ (allocate p .cutoff false 0 0 0 1 Alloc.reset).capL < 1 ∧
      (allocate p .cutoff false 0 0 0 1 Alloc.reset).capL = 0 ∧ 0 < 1 := by decide +kernel

/-! ## Witnesses: the light frame boundary -/

/-- `quiet` with every alert's pattern field at 1 and the stage as given. -/
def alerting (st : Stage) (w : WinchState) : State :=
  { inStage st with
    winch := { Winch.reset with state := w }
    chassis := { quiet.chassis with profile :=
      (((((Profile.defaults.set .failsafePattern 1).set .cutoffPattern 1).set .limitPattern 15).set .winchLoadPattern 1).set
        .conservePattern 1) } }

theorem witness_Boundary_failsafe :
    let s := atPort .s (fun q => { q with link := .silent, failsafeFlag := true }) (alerting .limit .idle)
    s.powered = true ∧ (s.ports.get .s).link = .silent ∧ (s.ports.get .s).failsafeFlag = true ∧
      s.chassis.profile.nat .failsafePattern < 16 := by decide +kernel

theorem witness_Boundary_cutoff :
    (alerting .cutoff .idle).powered = true ∧ (alerting .cutoff .idle).supply.stage = .cutoff ∧
      (alerting .cutoff .idle).winch.state = .idle ∧ (alerting .cutoff .idle).chassis.profile.nat .cutoffPattern < 16 ∧
      (alerting .cutoff .idle).ports.p.link = .active ∧ (alerting .cutoff .idle).ports.w.link = .active ∧
      (alerting .cutoff .idle).ports.s.link = .active := by decide +kernel

theorem witness_Boundary_limit :
    (alerting .limit .idle).powered = true ∧ (alerting .limit .idle).supply.stage = .limit ∧
      (alerting .limit .idle).winch.state = .idle ∧ (alerting .limit .idle).chassis.profile.nat .limitPattern < 16 ∧
      (alerting .limit .idle).ports.p.link = .active ∧ (alerting .limit .idle).ports.w.link = .active ∧
      (alerting .limit .idle).ports.s.link = .active := by decide +kernel

theorem witness_Boundary_winchLoad :
    (alerting .conserve .loadHold).powered = true ∧ (alerting .conserve .loadHold).supply.stage = .conserve ∧
      (alerting .conserve .loadHold).winch.state = .loadHold ∧ (alerting .conserve .loadHold).chassis.profile.nat .winchLoadPattern < 16 ∧
      (alerting .conserve .loadHold).ports.p.link = .active ∧ (alerting .conserve .loadHold).ports.w.link = .active ∧
      (alerting .conserve .loadHold).ports.s.link = .active := by decide +kernel

theorem witness_Boundary_conserve :
    (alerting .conserve .idle).powered = true ∧ (alerting .conserve .idle).supply.stage = .conserve ∧
      (alerting .conserve .idle).winch.state = .idle ∧ (alerting .conserve .idle).chassis.profile.nat .conservePattern < 16 ∧
      (alerting .conserve .idle).ports.p.link = .active ∧ (alerting .conserve .idle).ports.w.link = .active ∧
      (alerting .conserve .idle).ports.s.link = .active := by decide +kernel

theorem witness_Boundary_none :
    quiet.powered = true ∧ quiet.supply.stage = .normal ∧ quiet.winch.state = .idle := by decide +kernel

theorem witness_Boundary_modes :
    lit.powered = true ∧ lit.lights.mode = .auto ∧
      ({ lit with lights := { lit.lights with mode := .manual } } : State).lights.mode = .manual := ⟨rfl, rfl, rfl⟩

theorem witness_Countdown_next :
    let s := withBase ⟨⟨.pattern 1, ⟨0, 1⟩, false⟩, none, none⟩
    s.powered = true ∧ s.lights.base.staged = none ∧ s.lights.base.fade = none ∧
      s.lights.base.live = ⟨.pattern 1, ⟨0, 1⟩, false⟩ ∧ (s.lights.defn 1).defined = true ∧ 0 < (s.lights.defn 1).count ∧
      1 ≤ (s.lights.defn 1).stepTime := by decide +kernel

theorem witness_Countdown_end :
    let s := withBase ⟨⟨.pattern 1, ⟨1, 1⟩, false⟩, none, none⟩
    s.powered = true ∧ s.lights.base.staged = none ∧ s.lights.base.fade = none ∧
      s.lights.base.live = ⟨.pattern 1, ⟨1, 1⟩, false⟩ ∧ (s.lights.defn 1).defined = true ∧ 1 < (s.lights.defn 1).count ∧
      1 ≤ (s.lights.defn 1).stepTime := by decide +kernel

theorem witness_Playback_undefined :
    let d : PatternDef := ⟨false, 0, 1, 1, .loop⟩
    d.defined = false := by decide +kernel

theorem witness_Playback_held :
    let d : PatternDef := ⟨true, 0, 4, 9, .once⟩
    let y : Playback := ⟨4, 5⟩
    let beyond := decide (d.count ≤ y.step)
    let left := if beyond = true ∧ d.action ≠ .loop then 0 else min y.countdown d.stepTime
    d.defined = true ∧ left = 0 := by decide +kernel

theorem witness_Playback_counts :
    let d : PatternDef := ⟨true, 0, 4, 9, .loop⟩
    let y : Playback := ⟨4, 100⟩
    let beyond := decide (d.count ≤ y.step)
    let left := if beyond = true ∧ d.action ≠ .loop then 0 else min y.countdown d.stepTime
    d.defined = true ∧ 1 < left := by decide +kernel

theorem witness_Playback_next :
    let d : PatternDef := ⟨true, 0, 4, 9, .once⟩
    let y : Playback := ⟨2, 1⟩
    let beyond := decide (d.count ≤ y.step)
    let step := if beyond = true then (if d.action = .loop then 0 else d.count - 1) else y.step
    let left := if beyond = true ∧ d.action ≠ .loop then 0 else min y.countdown d.stepTime
    d.defined = true ∧ left = 1 ∧ step + 1 < d.count := by decide +kernel

theorem witness_Playback_end :
    let d : PatternDef := ⟨true, 0, 4, 9, .once⟩
    let y : Playback := ⟨3, 1⟩
    let beyond := decide (d.count ≤ y.step)
    let step := if beyond = true then (if d.action = .loop then 0 else d.count - 1) else y.step
    let left := if beyond = true ∧ d.action ≠ .loop then 0 else min y.countdown d.stepTime
    d.defined = true ∧ left = 1 ∧ d.count ≤ step + 1 := by decide +kernel

/-- A fade one boundary before its end. -/
def lastFade (k : FadeKind) : Fade :=
  ⟨k, ⟨.level 0, ⟨0, 0⟩, false⟩, ⟨.pattern 1, ⟨0, 1⟩, false⟩, 0, 4, 100, 3, false⟩

theorem witness_FadeEnd_fade :
    let s := withBase ⟨⟨.level 0, ⟨0, 0⟩, false⟩, none, some (lastFade .fade)⟩
    s.powered = true ∧ s.lights.base.staged = none ∧ s.lights.base.fade = some (lastFade .fade) ∧
      (lastFade .fade).ended = false ∧ (lastFade .fade).n ≤ (lastFade .fade).k + 1 ∧ (lastFade .fade).kind = .fade := by decide +kernel

theorem witness_FadeEnd_fill :
    let s := withBase ⟨⟨.level 0, ⟨0, 0⟩, false⟩, none, some (lastFade .fill)⟩
    s.powered = true ∧ s.lights.base.staged = none ∧ s.lights.base.fade = some (lastFade .fill) ∧
      (lastFade .fill).ended = false ∧ (lastFade .fill).n ≤ (lastFade .fill).k + 1 ∧ (lastFade .fill).kind = .fill := by decide +kernel

theorem witness_Staged_cut :
    let s := withBase ⟨⟨.level 0, ⟨0, 0⟩, false⟩, some ⟨.pattern 1, 0, .cut⟩, none⟩
    s.powered = true ∧ s.lights.base.staged = some ⟨.pattern 1, 0, .cut⟩ ∧ s.lights.base.fade = none ∧
      (s.lights.record 1).openBy.isSome = false := by decide +kernel

theorem witness_Staged_fade :
    let s := withBase ⟨⟨.level 0, ⟨0, 0⟩, false⟩, some ⟨.pattern 1, 0, .fade 2⟩, none⟩
    s.powered = true ∧ s.lights.base.staged = some ⟨.pattern 1, 0, .fade 2⟩ ∧ s.lights.base.fade = none ∧
      (s.lights.record 1).openBy.isSome = false ∧ 1 < 2 := by decide +kernel

theorem witness_Staged_fill :
    let s := withBase ⟨⟨.level 0, ⟨0, 0⟩, false⟩, some ⟨.level 254, 0, .fill 64 254⟩, none⟩
    s.powered = true ∧ s.lights.base.staged = some ⟨.level 254, 0, .fill 64 254⟩ ∧ s.lights.base.fade = none ∧
      (s.lights.record 1).openBy.isSome = false ∧ 1 < 64 := by decide +kernel

theorem witness_Staged_fadeOfOne :
    let s := withBase ⟨⟨.level 0, ⟨0, 0⟩, false⟩, some ⟨.pattern 1, 0, .fade 1⟩, none⟩
    s.powered = true ∧ s.lights.base.staged = some ⟨.pattern 1, 0, .fade 1⟩ ∧ s.lights.base.fade = none ∧
      (s.lights.record 1).openBy.isSome = false := by decide +kernel

theorem witness_Staged_fillOfOne :
    let s := withBase ⟨⟨.level 0, ⟨0, 0⟩, false⟩, some ⟨.level 254, 0, .fill 1 254⟩, none⟩
    s.powered = true ∧ s.lights.base.staged = some ⟨.level 254, 0, .fill 1 254⟩ ∧ s.lights.base.fade = none ∧
      (s.lights.record 1).openBy.isSome = false := by decide +kernel

theorem witness_NothingStaged :
    let s := withBase ⟨⟨.level 0, ⟨0, 0⟩, false⟩, none, none⟩
    s.powered = true ∧ s.lights.base.staged = none ∧ s.lights.base.fade = none := by decide +kernel

theorem witness_FadeGoesOn_fade :
    let f : Fade := { lastFade .fade with k := 2 }
    let s := withBase ⟨⟨.level 0, ⟨0, 0⟩, false⟩, none, some f⟩
    s.powered = true ∧ s.lights.base.staged = none ∧ s.lights.base.fade = some f ∧ f.ended = false ∧ f.k + 1 < f.n := by decide +kernel

theorem witness_FadeGoesOn_fill :
    let f : Fade := { lastFade .fill with k := 2 }
    let s := withBase ⟨⟨.level 0, ⟨0, 0⟩, false⟩, none, some f⟩
    s.powered = true ∧ s.lights.base.staged = none ∧ s.lights.base.fade = some f ∧ f.ended = false ∧ f.k + 1 < f.n := by decide +kernel

theorem witness_FadeMarkedEnded :
    let f : Fade := { lastFade .fill with ended := true }
    let s := withBase ⟨⟨.level 0, ⟨0, 0⟩, false⟩, some ⟨.level 7, 0, .fade 1⟩, some f⟩
    s.powered = true ∧ s.lights.base.fade = some f ∧ f.ended = true := by decide +kernel

theorem witness_Staged_open :
    let s := withBase ⟨⟨.level 0, ⟨0, 0⟩, false⟩, some ⟨.pattern 1, 0, .cut⟩, none⟩
    let s' : State := { s with lights := setRecord 1 ⟨⟨true, 2, 2, 1, .loop⟩, some .p⟩ s.lights }
    s'.powered = true ∧ s'.lights.base.staged = some ⟨.pattern 1, 0, .cut⟩ ∧ s'.lights.base.fade = none ∧
      (s'.lights.record 1).openBy.isSome = true := by decide +kernel

/-! ## Witnesses: the conditions that every step keeps -/

/-- A state that meets a condition and a command that steps from it. -/
def stepping (i : Instr) (s : State) : State := { s with pending := [i] }

theorem witness_EveryStepKeepsTheLinksInOrder :
    linksFit (stepping (.stopAll .p 1 15 []) full) ∧ (∃ t, step (stepping (.stopAll .p 1 15 []) full) = .next t) := by
  refine ⟨⟨?_, ?_⟩, ⟨_, rfl⟩⟩
  · intro l
    cases l <;> decide +kernel
  · intro l
    cases l <;> exact List.nodup_nil

theorem witness_EveryStepKeepsTheTowLink :
    towFits (stepping (.towAssistOff .w 1 2 []) towing) ∧
      (∃ t, step (stepping (.towAssistOff .w 1 2 []) towing) = .next t) :=
  ⟨⟨rfl, rfl, rfl, .inl rfl, by decide +kernel⟩, ⟨_, rfl⟩⟩

theorem witness_EveryStepKeepsTheRanges_factors :
    factorsFit (stepping (.supplyPeriod (cellsAt 3000) 0) quiet) ∧
      (∃ t, step (stepping (.supplyPeriod (cellsAt 3000) 0) quiet) = .next t) :=
  ⟨⟨Nat.le_refl _, Nat.le_refl _, Nat.le_refl _, fun h => (by cases h)⟩, ⟨_, rfl⟩⟩

theorem witness_EveryStepKeepsTheRanges_outputs :
    outputsFit (stepping .lightFrameBoundary lit) ∧ (∃ t, step (stepping .lightFrameBoundary lit) = .next t) := by
  refine ⟨⟨⟨by decide +kernel, fun g h => (by cases h), fun f h => (by cases h)⟩, by decide +kernel, ?_⟩, ⟨_, rfl⟩⟩
  decide +kernel

theorem witness_EveryStepKeepsTheRanges_targets :
    targetsFit (stepping (.motionPeriod 0) { quiet with drive := { quiet.drive with targets := ⟨4000, -4000, 4000, -4000⟩ } }) ∧
      (∃ t, step (stepping (.motionPeriod 0) quiet) = .next t) :=
  ⟨⟨rfl, rfl, ⟨by decide, by decide⟩, ⟨by decide, by decide⟩⟩, ⟨_, rfl⟩⟩

/-- The defaults keep the ranges and the order rules (R175, R178). -/
theorem test_defaults_fit : profileFits Profile.defaults = true := by decide +kernel

theorem witness_EveryStepKeepsTheProfileInOrder :
    storeFits (stepping (.profileCommit .p 1 5 []) { quiet with chassis := { quiet.chassis with image := closedImage plain } }) ∧
      (∃ t, step (stepping (.profileCommit .p 1 5 [])
        { quiet with chassis := { quiet.chassis with image := closedImage plain } }) = .next t) :=
  ⟨⟨test_defaults_fit, fun c h => (by cases h), fun _ => test_defaults_fit⟩, ⟨_, rfl⟩⟩

theorem witness_EveryStepKeepsTheOperations_commit :
    commitFits (stepping .commitWriteComplete writing) ∧
      (∃ t, step (stepping .commitWriteComplete writing) = .next t) :=
  ⟨⟨rfl, rfl⟩, ⟨_, rfl⟩⟩

theorem witness_EveryStepKeepsTheOperations_winch :
    winchFits (stepping (.drumCount .outward) moving) ∧ profileFits moving.chassis.profile = true ∧
      (∃ t, step (stepping (.drumCount .outward) moving) = .next t) := by
  refine ⟨⟨rfl, rfl, rfl, ?_, fun h => (by cases h)⟩, test_defaults_fit, ⟨_, rfl⟩⟩
  intro _ t h
  cases h
  decide +kernel

theorem witness_EveryStepKeepsTheOperations_lights :
    lightsFit (stepping .lightFrameBoundary (busyWith .lights ⟨.fade, some .w, 9, 0⟩
      (withBase ⟨⟨.level 0, ⟨0, 0⟩, false⟩, some ⟨.pattern 1, 0, .fade 2⟩, none⟩))) :=
  ⟨rfl, fun _ f h => (by cases h)⟩

theorem witness_CutoffIsLatched :
    (cutAt 3550).supply.stage = .cutoff ∧ (cutAt 3550).supply.initialPending = false ∧
      after (.supplyClear .s 1 4 []) (cutAt 3550) (fun t => decide (t.supply.stage ≠ .cutoff)) = true := by decide +kernel

theorem witness_CutoffIsLatched_frame :
    let s := { nearEnd [1, 7, 4, 0x61] with supply := (cutAt 3550).supply }
    s.supply.stage = .cutoff ∧ s.supply.initialPending = false ∧
      after (.byteReceived .p (lastOf [1, 7, 4, 0x61]) false) s (fun t => decide (t.supply.stage ≠ .cutoff)) = true := by decide +kernel

end Sys2Proof.Tests
end

section
/-! What a step can do, once: a property that the primitive effects keep is kept by every step. -/

namespace Sys2Proof.Machine.MotionGeometry

/-- Every state that an execution leaves has the property (R8). -/
def Leaves (Q : State → Prop) (e : Exec) : Prop :=
  match e with
  | .good _ t => Q t
  | .accepted _ _ t => Q t
  | .check _ _ => True
  | .conflict => True

@[simp] theorem leaves_good (Q : State → Prop) (reply : List Byte) (t : State) :
    Leaves Q (Exec.good reply t) ↔ Q t := .rfl

@[simp] theorem leaves_accepted (Q : State → Prop) (k : LongKind) (reply : List Byte) (t : State) :
    Leaves Q (Exec.accepted k reply t) ↔ Q t := .rfl

@[simp] theorem leaves_check (Q : State → Prop) (r : Reason) (v : Option Int) :
    Leaves Q (Exec.check r v) ↔ True := .rfl

@[simp] theorem leaves_conflict (Q : State → Prop) : Leaves Q Exec.conflict ↔ True := .rfl

/-- No link leaves ACTIVE (R172). -/
def activeKept (a b : PerLink Port) : Prop := ∀ l, (a.get l).link = .active → (b.get l).link = .active

theorem activeKept_set {a : PerLink Port} {l : Link} {q : Port}
    (h : (a.get l).link = .active → q.link = .active) : activeKept a (a.set l q) := by
  intro m hm
  by_cases e : m = l
  · subst e
    rw [PerLink.get_set_same]
    exact h hm
  · rwa [PerLink.get_set_other _ _ e]

theorem activeKept_of_portsKept {s t : State} (h : portsKept s t) : activeKept s.ports t.ports := by
  intro l hl
  obtain ⟨-, -, -, -, -, hlink, -⟩ := h l
  rw [hlink, hl]

/-- The assembly of a byte leaves the link state alone (R161). -/
theorem assemble_link (b : Byte) (q : Port) : (q.assemble b).1.link = q.link := by
  cases h : q.assembly with
  | hunt =>
    simp only [Port.assemble, h]
    split <;> rfl
  | length =>
    simp only [Port.assemble, h]
    split
    · rfl
    · split <;> rfl
  | body =>
    simp only [Port.assemble, h]
    split <;> rfl
  | check =>
    simp only [Port.assemble, h]
    split <;> rfl

/-- A property of the part that each primitive effect keeps: those of the queue, the clock and the power, of the lines and
the dispatcher's records, of a command's execution, and of the events of each block. -/
structure KeptByEffects (P : State → Prop) : Prop where
  queue : ∀ s q, P s → P { s with pending := q }
  tick : ∀ s, P s → P (tick s)
  powerOn : ∀ s, P (powerOn s)
  losePower : ∀ s, P s → P (losePower s)
  lines : ∀ s ps n, P s → activeKept s.ports ps → P { s with ports := ps, draws := n }
  records : ∀ s d, P s → d.holders = s.disp.holders → P { s with disp := d }
  body : ∀ n l c s, P s → (s.ports.get l).link = .active → busy n c s = false → Leaves P (runBody n l c s)
  silence : ∀ l s, P s → P (silenceTimeout l s)
  commit : ∀ s, P s → P (commitComplete s)
  settling : ∀ s, P s → P (settlingEnd s)
  motion : ∀ m s, P s → P (motionPeriod m s)
  servo : ∀ a s, P s → P (setSteer (servoFrame s.chassis.profile a s.steer) s)
  regulator : ∀ w count sense s, P s → P (regulatorPeriod w count sense s).1
  drum : ∀ dir s, P s → P (drumCount dir s)
  winch : ∀ sense s, P s → P (winchPeriod sense s).1
  supply : ∀ x shunt s, P s → P (supplyPeriod x shunt s).1
  lights : ∀ s, P s → P (lightBoundary s).1

namespace KeptByEffects

variable {P : State → Prop}

/-! ### Lines and records -/

theorem setPort (k : KeptByEffects P) {l : Link} {q : Port} {s : State} (h : P s)
    (hq : (s.ports.get l).link = .active → q.link = .active) : P (setPort l q s) :=
  k.lines s (s.ports.set l q) s.draws h (activeKept_set hq)

theorem arbitrate (k : KeptByEffects P) {s : State} (h : P s) : P (arbitrate s) :=
  k.lines s _ _ h (activeKept_of_portsKept (arbitrate_portsKept s))

theorem placeStatus (k : KeptByEffects P) {l : Link} {tag : Byte} {a : Answer} (h : P a.st) :
    P (placeStatus l tag a) :=
  k.setPort h id

theorem refuse (k : KeptByEffects P) {l : Link} {c : Command} {code : StatusCode} {r : Reason} {v : Option Int}
    {s : State} (h : P s) : P (refuse l c code r v s).st :=
  k.records s _ h rfl

theorem markCommander (k : KeptByEffects P) {l : Link} {n : CmdName} {s : State} (h : P s) :
    P (markCommander l n s) := by
  unfold Machine.markCommander
  split
  · exact k.records s _ h rfl
  · exact h

theorem fillOp (k : KeptByEffects P) {l : Link} {n : CmdName} {kind : LongKind} {tag : Byte} {s : State} (h : P s) :
    P (fillOp l n kind tag s) := by
  unfold Machine.fillOp
  split
  · next u _ => exact k.records s _ h (by cases u <;> rfl)
  · exact h

/-! ### A command, from its arrival to its answer (R3 to R8, R163, R164) -/

theorem settle (k : KeptByEffects P) {l : Link} {n : CmdName} {c : Command} {s : State} {e : Exec} (h : P s)
    (he : Leaves P e) : P (settle l n c s e).st := by
  cases e with
  | good reply t => exact k.markCommander he
  | accepted kind reply t => exact k.markCommander (k.fillOp he)
  | check r v => exact k.refuse h
  | conflict => exact h

theorem screen (k : KeptByEffects P) {l : Link} {c : Command} {s : State} (h : P s)
    (hl : (s.ports.get l).link = .active) : P (screen l c s).st := by
  cases ha : attentionDue l c s with
  | some kind =>
    rw [screen_attend ha]
    exact k.refuse (k.records s _ h rfl)
  | none =>
    cases hv : validity c with
    | error d =>
      rw [screen_invalid ha hv]
      exact k.refuse h
    | ok n =>
      cases hh : heldByAnother l n s with
      | true => rwa [screen_held ha hv hh]
      | false =>
        cases hb : busy n c s with
        | true => rwa [screen_busy ha hv hh hb]
        | false =>
          cases ht : tagClash l n c s with
          | true =>
            rw [screen_clash ha hv hh hb ht]
            exact k.refuse h
          | false =>
            rw [screen_run ha hv hh hb ht]
            exact k.settle h (k.body n l c s h hl hb)

theorem goodFrame (k : KeptByEffects P) {l : Link} {s : State} (h : P s) : P (goodFrame l s) :=
  k.setPort h fun _ => rfl

theorem arrive (k : KeptByEffects P) {l : Link} {c : Command} {s : State} (h : P s) : P (arrive l c s) := by
  cases hs : (s.ports.get l).slot with
  | none =>
    rw [arrive_free hs]
    have ht : P (taken l c s) := k.setPort h fun _ => rfl
    exact k.placeStatus (k.screen ht (by simp [taken]))
  | some x =>
    rw [arrive_full (by simp [hs])]
    exact k.setPort (k.goodFrame h) id

/-! ### Reception and transmission (R160, R161, R168) -/

theorem receiveByte (k : KeptByEffects P) {l : Link} {b : Byte} {s : State} (h : P s) : P (receiveByte l b s) := by
  have h1 : P (Machine.setPort l ((s.ports.get l).assemble b).1 s) :=
    k.setPort h fun hl => (assemble_link b _).trans hl
  unfold Machine.receiveByte
  dsimp only
  split
  · unfold completeFrame
    split
    · split
      · exact k.arrive h1
      · exact k.goodFrame h1
    · exact h1
  · exact h1

theorem abandonFrame (k : KeptByEffects P) {l : Link} {s : State} (h : P s) : P (abandonFrame l s) :=
  k.setPort h id

theorem frameEnd (k : KeptByEffects P) {l : Link} {s : State} (h : P s) :
    P (Machine.setPort l ((s.ports.get l).frameEnd.startNext s.supply.stage) s) := by
  refine k.setPort h fun hl => ?_
  obtain ⟨-, -, -, -, -, hlink, -⟩ := (s.ports.get l).frameEnd.startNext_kept s.supply.stage
  rw [hlink, ← hl]
  unfold Port.frameEnd
  split <;> rfl

/-! ### Every step -/

/-- An event of the running part keeps what its effect keeps. -/
theorem event (k : KeptByEffects P) {f : State → State} {s t : State} (h : P s) (hf : P (f s))
    (ht : event f s = .next t) : P t := by
  cases hp : s.powered with
  | true =>
    rw [event_powered hp, Host.Outcome.next.injEq] at ht
    exact ht ▸ k.arbitrate hf
  | false =>
    rw [event_unpowered hp, Host.Outcome.next.injEq] at ht
    exact ht ▸ h

end KeptByEffects

/-- A row that names an outcome of a period keeps what the period keeps (log entry 3). -/
theorem eventWhen_keeps {P : State → Prop} {α : Type} [DecidableEq α] (x : α) {f : State → State × List α} {s : State}
    (h : P s) (hf : P (f s).1) : P (eventWhen x f s) := by
  unfold eventWhen
  split
  · exact hf
  · exact h

namespace KeptByEffects

variable {P : State → Prop}

/-- Every row of the table keeps what the primitive effects keep. -/
theorem exec (k : KeptByEffects P) {i : Instr} {s t : State} (h : P s) (ht : exec i s = .next t) : P t := by
  cases hi : instrFrame i with
  | some lc =>
    obtain ⟨l, c⟩ := lc
    rw [exec_of_frame hi] at ht
    exact k.event h (k.arrive h) ht
  | none =>
    cases i <;> first | contradiction | skip
    case powerOn =>
      obtain rfl := Host.Outcome.next.inj ht
      exact k.powerOn _
    case powerLoss =>
      obtain rfl := Host.Outcome.next.inj ht
      split
      · exact k.losePower s h
      · exact h
    case frameReceived l b => exact k.event h (k.receiveByte h) ht
    case byteReceived l b broken =>
      cases broken with
      | true => exact k.event h (k.abandonFrame h) ht
      | false => exact k.event h (k.receiveByte h) ht
    case frameByteTimeout l => exact k.event h (k.abandonFrame h) ht
    case transmitFrameEnd l => exact k.event h (k.frameEnd h) ht
    case silenceTimeout l => exact k.event h (k.silence l s h) ht
    case commitWriteComplete => exact k.event h (k.commit s h) ht
    case settlingEnd => exact k.event h (k.settling s h) ht
    case motionPeriod m => exact k.event h (k.motion m s h) ht
    case servoFrame a => exact k.event h (k.servo a s h) ht
    case regulatorPeriod w n c => exact k.event (f := fun s => (Machine.regulatorPeriod w n c s).1) h (k.regulator w n c s h) ht
    case holdCreepExceeded w n c => exact k.event h (eventWhen_keeps _ h (k.regulator w n c s h)) ht
    case holdSettleEnd w n c => exact k.event h (eventWhen_keeps _ h (k.regulator w n c s h)) ht
    case stallTimeReached w n c => exact k.event h (eventWhen_keeps _ h (k.regulator w n c s h)) ht
    case stallRestEnd w n c => exact k.event h (eventWhen_keeps _ h (k.regulator w n c s h)) ht
    case faultRestEnd w n c => exact k.event h (eventWhen_keeps _ h (k.regulator w n c s h)) ht
    case faultWindowClose w n c => exact k.event h (eventWhen_keeps _ h (k.regulator w n c s h)) ht
    case drumCount dir => exact k.event h (k.drum dir s h) ht
    case winchPeriod c => exact k.event (f := fun s => (Machine.winchPeriod c s).1) h (k.winch c s h) ht
    case referenceDetected c => exact k.event h (eventWhen_keeps _ h (k.winch c s h)) ht
    case referenceTimeout c => exact k.event h (eventWhen_keeps _ h (k.winch c s h)) ht
    case loadHoldEntry c => exact k.event h (eventWhen_keeps _ h (k.winch c s h)) ht
    case supplyPeriod x i => exact k.event (f := fun s => (Machine.supplyPeriod x i s).1) h (k.supply x i s h) ht
    case dwellDownReached x i => exact k.event h (eventWhen_keeps _ h (k.supply x i s h)) ht
    case dwellUpReached x i => exact k.event h (eventWhen_keeps _ h (k.supply x i s h)) ht
    case lightFrameBoundary => exact k.event (f := fun s => (Machine.lightBoundary s).1) h (k.lights s h) ht
    case playbackCountdown => exact k.event h (eventWhen_keeps _ h (k.lights s h)) ht
    case fadeEnd => exact k.event h (eventWhen_keeps _ h (k.lights s h)) ht

/-- Every step keeps what the primitive effects keep. -/
theorem step (k : KeptByEffects P) {s t : State} (h : P s) (ht : step s = .next t) : P t := by
  unfold Machine.step at ht
  split at ht
  · obtain rfl := Host.Outcome.next.inj ht
    exact k.tick s h
  · next i rest _ => exact k.exec (k.queue s rest h) ht

end KeptByEffects

end Sys2Proof.Machine.MotionGeometry
end

section
/-! What most effects leave alone of the vehicle: the drive state and the targets, the tow link, the reservations, the
ACTIVE links, the supply monitor and the allocator. The few effects that do not are treated one by one. -/

namespace Sys2Proof.Machine.MotionGeometry

/-- Nothing that the conditions on the tow link, the targets and the factors speak of has moved, but that a link may have
become ACTIVE. -/
structure VehicleKept (s t : State) : Prop where
  state : t.drive.state = s.drive.state
  targets : t.drive.targets = s.drive.targets
  tow : t.winch.tow = s.winch.tow
  holders : t.disp.holders = s.disp.holders
  links : activeKept s.ports t.ports
  supply : t.supply = s.supply
  alloc : t.alloc = s.alloc

namespace VehicleKept

theorem refl (s : State) : VehicleKept s s := ⟨rfl, rfl, rfl, rfl, fun _ h => h, rfl, rfl⟩

theorem trans {a b c : State} (h : VehicleKept a b) (k : VehicleKept b c) : VehicleKept a c where
  state := k.state.trans h.state
  targets := k.targets.trans h.targets
  tow := k.tow.trans h.tow
  holders := k.holders.trans h.holders
  links := fun l hl => k.links l (h.links l hl)
  supply := k.supply.trans h.supply
  alloc := k.alloc.trans h.alloc

/-! ### Lines, records and notices -/

theorem lines {s : State} {ps : PerLink Port} {n : Nat} (h : activeKept s.ports ps) :
    VehicleKept s { s with ports := ps, draws := n } := ⟨rfl, rfl, rfl, rfl, h, rfl, rfl⟩

theorem setPort {l : Link} {q : Port} {s : State} (h : (s.ports.get l).link = .active → q.link = .active) :
    VehicleKept s (setPort l q s) := lines (n := s.draws) (activeKept_set h)

theorem setDisp {d : DispatcherState} {s : State} (h : d.holders = s.disp.holders) :
    VehicleKept s (setDisp d s) := ⟨rfl, rfl, rfl, h, fun _ h => h, rfl, rfl⟩

theorem postAll (k : Attention) (s : State) : VehicleKept s (postAll k s) := setDisp rfl

theorem offer (n : Notice) (s : State) : VehicleKept s (offer n s) :=
  lines (n := s.draws) (activeKept_of_portsKept (offer_portsKept n s))

theorem offerList (ns : List Notice) (s : State) : VehicleKept s (offerList ns s) :=
  ⟨by simp, by simp, by simp, by simp, activeKept_of_portsKept (offerList_portsKept ns s), by simp, by simp⟩

theorem endOp (u : UnitId) (r : OpResult) (s : State) : VehicleKept s (endOp u r s) :=
  ⟨by simp, by simp, by simp, by rw [endOp_disp]; cases u <;> rfl,
    activeKept_of_portsKept (endOp_portsKept u r s), by simp, by simp⟩

/-! ### Blocks -/

theorem setWinch {w : Winch} {s : State} (h : w.tow = s.winch.tow := by rfl) : VehicleKept s (setWinch w s) :=
  ⟨rfl, rfl, h, rfl, fun _ h => h, rfl, rfl⟩

theorem setSteer (x : Steer) (s : State) : VehicleKept s (setSteer x s) :=
  ⟨rfl, rfl, rfl, rfl, fun _ h => h, rfl, rfl⟩

theorem setLights (x : Lights) (s : State) : VehicleKept s (setLights x s) :=
  ⟨rfl, rfl, rfl, rfl, fun _ h => h, rfl, rfl⟩

theorem setChassis (x : Chassis) (s : State) : VehicleKept s (setChassis x s) :=
  ⟨rfl, rfl, rfl, rfl, fun _ h => h, rfl, rfl⟩

theorem setWheels (ws : PerWheel Channel) (n : Nat) (s : State) :
    VehicleKept s { s with wheels := ws, draws := n } := ⟨rfl, rfl, rfl, rfl, fun _ h => h, rfl, rfl⟩

theorem regulatorPeriod (w : Wheel) (count : Int) (sense : Nat) (s : State) :
    VehicleKept s (regulatorPeriod w count sense s).1 :=
  (setWheels _ _ s).trans (offerList _ _)

theorem commitComplete (s : State) : VehicleKept s (commitComplete s) := by
  unfold Machine.commitComplete
  split
  · exact (setChassis _ s).trans (endOp _ _ _)
  · exact refl s

theorem settlingEnd (s : State) : VehicleKept s (settlingEnd s) := by
  unfold Machine.settlingEnd
  split
  · exact setChassis _ s
  · exact refl s

theorem lightBoundary (s : State) : VehicleKept s (lightBoundary s).1 := by
  unfold Machine.lightBoundary
  dsimp only
  split
  · exact (setLights _ s).trans (endOp _ _ _)
  · exact setLights _ s

theorem losePower (s : State) : VehicleKept s (losePower s) := by
  unfold Machine.losePower
  split <;> exact ⟨rfl, rfl, rfl, rfl, fun _ h => h, rfl, rfl⟩

theorem tick (s : State) : VehicleKept s (tick s) := by
  unfold Machine.tick
  split
  · exact ⟨rfl, rfl, rfl, rfl, fun l h => by rwa [PerLink.get_map], rfl, rfl⟩
  · exact refl s

/-! ### The winch -/

theorem endWinchOp (r : OpResult) (s : State) : VehicleKept s (endWinchOp r s) :=
  (setWinch).trans (endOp _ _ _)

theorem payoutLimitStop (s : State) : VehicleKept s (payoutLimitStop s) := by
  unfold Machine.payoutLimitStop
  split
  · exact (setWinch).trans (offer _ _)
  · exact refl s

theorem moveEndCheck (s : State) : VehicleKept s (moveEndCheck s) := by
  unfold Machine.moveEndCheck
  split
  · exact endWinchOp _ s
  · exact refl s

theorem payoutChecks (s : State) : VehicleKept s (payoutChecks s) := by
  cases h : s.winch.state with
  | move =>
    simp only [Machine.payoutChecks, h]
    split
    · exact (moveEndCheck s).trans (payoutLimitStop _)
    · exact moveEndCheck s
  | runOut =>
    simp only [Machine.payoutChecks, h]
    exact payoutLimitStop s
  | idle | runIn | reference | loadHold | free =>
    simp only [Machine.payoutChecks, h]
    exact refl s

theorem drumCount (dir : LineDir) (s : State) : VehicleKept s (drumCount dir s) :=
  (setWinch).trans (payoutChecks _)

theorem winchWriteChecks (s : State) : VehicleKept s (winchWriteChecks s) := by
  unfold Machine.winchWriteChecks
  dsimp only
  split
  · exact (setWinch).trans (payoutChecks _)
  · exact payoutChecks s

theorem referenceStep (s : State) : VehicleKept s (referenceStep s).1 := by
  unfold Machine.referenceStep
  split
  extract_lets timer start
  · split
    · exact (setWinch).trans (endWinchOp _ _)
    · split
      · exact endWinchOp _ s
      · exact setWinch
  · exact refl s

theorem loadStep (s : State) : VehicleKept s (loadStep s).1 := by
  have held : VehicleKept s (Machine.offer (.winch .load s.winch.current)
      (Machine.setWinch { s.winch.toIdle with state := .loadHold, note := .loadHold } s)) :=
    (setWinch).trans (offer _ _)
  unfold Machine.loadStep
  split
  extract_lets timer held'
  · split
    · dsimp only
      split
      · exact held.trans (endOp _ _ _)
      · exact held
    · exact setWinch
  · exact setWinch

theorem winchPeriod (sense : Nat) (s : State) : VehicleKept s (winchPeriod sense s).1 :=
  ((((setWinch).trans (referenceStep _)).trans (moveEndCheck _)).trans
    (loadStep _)).trans setWinch

theorem winchStopAction (s : State) : VehicleKept s (winchStopAction s) := by
  cases h : s.winch.state with
  | runIn | runOut | loadHold | idle | free =>
    simp only [Machine.winchStopAction, h]
    exact setWinch
  | move | reference =>
    simp only [Machine.winchStopAction, h]
    exact endWinchOp _ s

theorem winchCutoffEntry (s : State) : VehicleKept s (winchCutoffEntry s) := by
  cases h : s.winch.state with
  | runIn | runOut =>
    simp only [Machine.winchCutoffEntry, h]
    exact setWinch
  | move | reference =>
    simp only [Machine.winchCutoffEntry, h]
    exact endWinchOp _ s
  | idle | loadHold | free =>
    simp only [Machine.winchCutoffEntry, h]
    exact refl s

/-! ### The profile store -/

theorem timeoutWritten (l : Link) (s : State) : VehicleKept s (timeoutWritten l s) := by
  unfold Machine.timeoutWritten
  dsimp only
  split
  · exact setPort id
  · exact refl s

theorem fieldWritten (f : Field) (s : State) : VehicleKept s (fieldWritten f s) := by
  unfold Machine.fieldWritten
  split
  · exact setSteer _ s
  · exact winchWriteChecks s
  · exact winchWriteChecks s
  · exact timeoutWritten _ s
  · exact refl s

theorem storeField (f : Field) (v : Int) (s : State) : VehicleKept s (storeField f v s) := by
  unfold Machine.storeField
  dsimp only
  split
  · exact setChassis _ s
  · exact (setChassis _ s).trans (setChassis _ _)

theorem restoredEffects (s : State) : VehicleKept s (restoredEffects s) :=
  ((((fieldWritten _ s).trans (fieldWritten _ _)).trans (timeoutWritten _ _)).trans (timeoutWritten _ _)).trans
    (timeoutWritten _ _)

theorem postWhenChanged (l : Link) (f : Field) (v : Int) (s : State) : VehicleKept s (postWhenChanged l f v s) := by
  unfold Machine.postWhenChanged
  split
  · exact refl s
  · exact setDisp rfl

theorem restartWhenChanged (f : Field) (v : Int) (s : State) : VehicleKept s (restartWhenChanged f v s) := by
  unfold Machine.restartWhenChanged
  split
  · exact refl s
  · exact setLights _ s

theorem supersede (s : State) : VehicleKept s (supersede s) := by
  unfold Machine.supersede
  split
  · exact (endOp _ _ s).trans (setLights _ _)
  · exact refl s

end VehicleKept

/-- The commands that may move the drive, the tow link, a reservation, the stage or the factors. -/
def vehicleCommands : List CmdName :=
  [.reserve, .release, .linkReset, .driveSet, .driveHold, .stopAll, .towAssist, .supplyClear, .chassisReset]

/-- Every other command leaves the vehicle so. -/
theorem runBody_vehicleKept {n : CmdName} (hn : n ∉ vehicleCommands) (l : Link) (c : Command) (s : State) :
    Leaves (VehicleKept s) (runBody n l c s) := by
  cases n with
  | reserve | release | linkReset | driveSet | driveHold | stopAll | towAssist | supplyClear | chassisReset =>
    exact absurd (by decide) hn
  | identify | reportDrive | reportSteer | reportWinch | reportSupply => exact .refl s
  | profileRead =>
    simp only [runBody, profileReadBody]
    split
    · trivial
    · exact .refl s
  | reportLights =>
    simp only [runBody, reportLightsBody]
    split
    · exact .refl s
    · exact .refl s
    · exact .refl s
    · split
      · trivial
      · exact .refl s
    · split
      · trivial
      · exact .refl s
  | profileWrite =>
    simp only [runBody, profileWriteBody]
    split
    · trivial
    · split
      · exact (((VehicleKept.postWhenChanged _ _ _ s).trans (.restartWhenChanged _ _ _)).trans
          (.storeField _ _ _)).trans (.fieldWritten _ _)
      · trivial
  | profileCommit =>
    simp only [runBody, profileCommitBody]
    split
    · trivial
    · exact .setChassis _ s
  | profileRestore =>
    simp only [runBody, profileRestoreBody]
    split
    · trivial
    · have loaded : VehicleKept s (postAll .profileChanged (takeLoaded (readImage s.chassis.image) s)) :=
        ⟨rfl, rfl, rfl, rfl, fun _ h => h, rfl, rfl⟩
      exact loaded.trans (.restoredEffects _)
  | reportSense => exact .setDisp rfl
  | setNotices => exact .setPort id
  | steerSet | steerMode => exact .setSteer _ s
  | steerTrim => exact .storeField _ _ s
  | winchRun =>
    simp only [runBody, winchRunBody]
    split
    · trivial
    · split
      · trivial
      · refine .setWinch ?_
        split
        · rfl
        · unfold enterRun
          split <;> rfl
  | winchStop => exact .endWinchOp _ s
  | winchToLength =>
    simp only [runBody, winchToLengthBody]
    split
    · trivial
    · split
      · trivial
      · split
        · trivial
        · exact .setWinch
  | winchReference =>
    simp only [runBody, winchReferenceBody]
    split
    · trivial
    · split
      · trivial
      · exact .setWinch
  | winchFree =>
    refine .setWinch ?_
    unfold winchFreeOn winchFreeOff
    split <;> split <;> rfl
  | lightWrite =>
    simp only [runBody, lightWriteBody]
    split
    · trivial
    · exact (VehicleKept.setLights _ s).trans (.setChassis _ _)
  | lightDefine =>
    simp only [runBody, lightDefineBody]
    split
    · trivial
    · split
      · trivial
      · exact (VehicleKept.setLights _ s).trans (.setChassis _ _)
  | showPattern =>
    simp only [runBody, showPatternBody]
    split
    · split <;> exact (VehicleKept.supersede s).trans (.setLights _ _)
    · trivial
  | overlaySet =>
    simp only [runBody, overlaySetBody]
    split
    · trivial
    · exact .setLights _ s
  | lightAuto => exact .setLights _ s

/-- A condition on the vehicle is kept by every primitive effect when it survives all that leaves the vehicle so, and the
effects that move the vehicle keep it one by one. -/
theorem keptByEffects_of_vehicle {P : State → Prop} (kept : ∀ {s t}, P s → VehicleKept s t → P t)
    (powerOn : ∀ s, P (powerOn s))
    (body : ∀ n ∈ vehicleCommands, ∀ l c s, P s → (s.ports.get l).link = .active → busy n c s = false →
      Leaves P (runBody n l c s))
    (silence : ∀ l s, P s → P (silenceTimeout l s)) (motion : ∀ m s, P s → P (motionPeriod m s))
    (supply : ∀ x shunt s, P s → P (supplyPeriod x shunt s).1) : KeptByEffects P where
  queue s q h := kept h ⟨rfl, rfl, rfl, rfl, fun _ h => h, rfl, rfl⟩
  tick s h := kept h (.tick s)
  powerOn := powerOn
  losePower s h := kept h (.losePower s)
  lines s ps n h hp := kept h (.lines hp)
  records s d h hd := kept h (.setDisp hd)
  body n l c s h hl hb := by
    by_cases hn : n ∈ vehicleCommands
    · exact body n hn l c s h hl hb
    · have hk := runBody_vehicleKept hn l c s
      cases he : runBody n l c s with
      | good reply t => exact kept h (by rwa [he] at hk)
      | accepted k reply t => exact kept h (by rwa [he] at hk)
      | check r v => trivial
      | conflict => trivial
  silence := silence
  commit s h := kept h (.commitComplete s)
  settling s h := kept h (.settlingEnd s)
  motion := motion
  servo a s h := kept h (.setSteer _ s)
  regulator w n c s h := kept h (.regulatorPeriod w n c s)
  drum dir s h := kept h (.drumCount dir s)
  winch c s h := kept h (.winchPeriod c s)
  supply := supply
  lights s h := kept h (.lightBoundary s)

end Sys2Proof.Machine.MotionGeometry
end

section
/-! The ranges of the targets and the factors, kept by every step (R36, R129). -/

namespace Sys2Proof.Machine.MotionGeometry

/-! ## What failsafe and chassis reset do to the vehicle -/

theorem VehicleKept.winchStopIf (b : Bool) (s : State) : VehicleKept s (if b then Machine.winchStopAction s else s) := by
  split
  · exact winchStopAction s
  · exact refl s

theorem VehicleKept.steerSafeIf (b : Bool) (s : State) :
    VehicleKept s (if b then { s with steer := steerSafe s.chassis.profile s.steer } else s) := by
  split
  · exact setSteer _ s
  · exact refl s

theorem VehicleKept.failsafeNoted (l : Link) (affected : Byte) (s : State) :
    VehicleKept s (Machine.offer (.failsafe l affected)
      (Machine.postAll .failsafe (Machine.setPort l { s.ports.get l with failsafeFlag := true } s))) := by
  have flagged : VehicleKept s (Machine.setPort l { s.ports.get l with failsafeFlag := true } s) := setPort fun h => h
  exact (flagged.trans (postAll .failsafe _)).trans (offer _ _)

theorem VehicleKept.ownsTow {s t : State} (h : VehicleKept s t) (l : Link) : ownsTow l t = ownsTow l s := by
  simp only [Machine.ownsTow, h.tow]

/-- All that failsafe does to the vehicle: an affected drive is halted into SAFE_HOLD, and the link's tow link ends (R22). -/
theorem failsafe_vehicle (l : Link) (s : State) :
    ∃ t, VehicleKept (if driveAffected l s then haltDrive .safeHold false s else s) t ∧
      VehicleKept (if ownsTow l t then endTow .failsafe t else t) (failsafe l s) := by
  unfold failsafe
  extract_lets -lift drive steer winch lights s1 s2 s3 s4 s5
  refine ⟨s3, (VehicleKept.steerSafeIf steer s1).trans (.winchStopIf winch s2), ?_⟩
  have closed : VehicleKept s4 s5 := .setLights _ s4
  show VehicleKept s4 _
  split
  · exact closed.trans (.failsafeNoted _ _ _)
  · exact closed

/-- What the silence comparison of chassis reset can do (R173). -/
theorem resetSilence_vehicle (l : Link) (s : State) :
    VehicleKept s (resetSilence l s) ∨ resetSilence l s = goSilent l s := by
  unfold resetSilence
  extract_lets -lift q timeout
  split
  · exact .inl (.refl s)
  · split
    · exact .inl (.setPort id)
    · split
      · exact .inl (.setPort id)
      · split
        · exact .inr rfl
        · exact .inl (.refl s)

/-! ## What leaves the targets, the factors and the stage alone -/

/-- The targets, the factors and the supply monitor have not moved. -/
structure RangesKept (s t : State) : Prop where
  targets : t.drive.targets = s.drive.targets
  supply : t.supply = s.supply
  alloc : t.alloc = s.alloc

theorem VehicleKept.ranges {s t : State} (h : VehicleKept s t) : RangesKept s t := ⟨h.targets, h.supply, h.alloc⟩

namespace RangesKept

theorem refl (s : State) : RangesKept s s := ⟨rfl, rfl, rfl⟩

theorem trans {a b c : State} (h : RangesKept a b) (k : RangesKept b c) : RangesKept a c :=
  ⟨k.targets.trans h.targets, k.supply.trans h.supply, k.alloc.trans h.alloc⟩

theorem haltDrive (st : DriveState) (release : Bool) (s : State) : RangesKept s (haltDrive st release s) :=
  ⟨by simp [Drive.zeroed], by simp, by simp⟩

theorem stopDrive (s : State) : RangesKept s (stopDrive s) := haltDrive _ _ s

theorem endTow (c : TowCause) (s : State) : RangesKept s (endTow c s) := by
  cases h : s.winch.tow with
  | none =>
    rw [endTow_of_none h]
    exact refl s
  | some w =>
    rw [endTow_of_some h]
    have unlinked : RangesKept s (setWinch { s.winch with tow := none } s) := ⟨rfl, rfl, rfl⟩
    exact (unlinked.trans (VehicleKept.offer _ _).ranges).trans (haltDrive _ _ _)

theorem takeThrottle (v : Int) (s : State) : RangesKept s (takeThrottle v s) :=
  ⟨by simp [storeThrottle], by simp, by simp⟩

theorem failsafe (l : Link) (s : State) : RangesKept s (failsafe l s) := by
  obtain ⟨t, h, k⟩ := failsafe_vehicle l s
  have halted : RangesKept s (if driveAffected l s then Machine.haltDrive .safeHold false s else s) := by
    split
    · exact haltDrive _ _ s
    · exact refl s
  have ended : RangesKept t (if ownsTow l t then Machine.endTow .failsafe t else t) := by
    split
    · exact endTow _ t
    · exact refl t
  exact ((halted.trans h.ranges).trans ended).trans k.ranges

theorem goSilent (l : Link) (s : State) : RangesKept s (goSilent l s) := by
  have silent (q : Port) : RangesKept s (setPort l q s) := ⟨rfl, rfl, rfl⟩
  exact (silent _).trans (failsafe l _)

theorem silenceTimeout (l : Link) (s : State) : RangesKept s (silenceTimeout l s) := by
  unfold Machine.silenceTimeout
  split
  · exact goSilent l s
  · exact refl s

theorem resetSilence (l : Link) (s : State) : RangesKept s (resetSilence l s) := by
  rcases resetSilence_vehicle l s with h | h
  · exact h.ranges
  · rw [h]
    exact goSilent l s

theorem setHolder (u : UnitId) (m : Option Link) (s : State) : RangesKept s (setHolder u m s) := ⟨rfl, rfl, rfl⟩

theorem releaseLink (l : Link) (s : State) : RangesKept s (releaseLink l s) := by
  unfold Machine.releaseLink
  extract_lets -lift _ s1
  have released : RangesKept s s1 := ⟨rfl, rfl, rfl⟩
  split
  · exact released.trans (endTow _ s1)
  · exact released

theorem dropWinchOp (l : Link) (s : State) : RangesKept s (dropWinchOp l s) := ⟨by simp, by simp, by simp⟩

theorem dropLightsOp (l : Link) (s : State) : RangesKept s (dropLightsOp l s) := ⟨by simp, by simp, by simp⟩

theorem disownCommit (l : Link) (s : State) : RangesKept s (disownCommit l s) := ⟨by simp, by simp, by simp⟩

theorem linkResetAll (l : Link) (s : State) : RangesKept s (linkResetAll l s) :=
  ((((releaseLink l s).trans (dropWinchOp l _)).trans (dropLightsOp l _)).trans (disownCommit l _)).trans
    ⟨rfl, rfl, rfl⟩

theorem cutoffEntry (s : State) : RangesKept s (cutoffEntry s) :=
  (((VehicleKept.winchCutoffEntry s).ranges).trans (endTow _ _)).trans (stopDrive _)

/-- RESERVE and RELEASE (R9 to R11). -/
theorem reserveBody (l : Link) (c : Command) (s : State) : Leaves (RangesKept s) (reserveBody l c s) := by
  unfold Machine.reserveBody
  split
  · trivial
  · split
    · trivial
    · split
      · exact setHolder _ _ s
      · split
        · exact refl s
        · split
          · exact ⟨rfl, rfl, rfl⟩
          · trivial

theorem releaseBody (l : Link) (c : Command) (s : State) : Leaves (RangesKept s) (releaseBody l c s) := by
  unfold Machine.releaseBody
  split
  · trivial
  · extract_lets -lift s1
    have released : RangesKept s s1 := by
      unfold s1
      split
      · exact setHolder _ _ s
      · exact refl s
    show RangesKept s _
    split
    · exact released.trans (endTow _ s1)
    · exact released

theorem towAssistBody (l : Link) (c : Command) (s : State) : Leaves (RangesKept s) (towAssistBody l c s) := by
  unfold Machine.towAssistBody
  split
  · unfold towAssistOnBody
    split
    · exact refl s
    · split
      · trivial
      · split
        · trivial
        · split
          · trivial
          · exact ⟨rfl, rfl, rfl⟩
  · exact endTow _ s

theorem driveSetBody (l : Link) (c : Command) (s : State) : Leaves (RangesKept s) (driveSetBody l c s) := by
  unfold Machine.driveSetBody
  split
  · trivial
  · exact takeThrottle _ s

/-- Every command but SUPPLY CLEAR and CHASSIS RESET leaves the ranges so. -/
theorem runBody {n : CmdName} (hc : n ≠ .supplyClear) (hr : n ≠ .chassisReset) (l : Link) (c : Command) (s : State) :
    Leaves (RangesKept s) (runBody n l c s) := by
  by_cases hn : n ∈ vehicleCommands
  · simp only [vehicleCommands, List.mem_cons, List.not_mem_nil, or_false] at hn
    rcases hn with rfl | rfl | rfl | rfl | rfl | rfl | rfl | rfl | rfl
    · exact reserveBody l c s
    · exact releaseBody l c s
    · exact linkResetAll l s
    · exact driveSetBody l c s
    · exact (endTow _ s).trans (haltDrive _ _ _)
    · exact (((VehicleKept.winchStopAction s).ranges).trans (endTow _ _)).trans (stopDrive _)
    · exact towAssistBody l c s
    · exact absurd rfl hc
    · exact absurd rfl hr
  · have hk := runBody_vehicleKept hn l c s
    cases he : Machine.runBody n l c s with
    | good reply t =>
      rw [he] at hk
      exact hk.ranges
    | accepted k reply t =>
      rw [he] at hk
      exact hk.ranges
    | check r v => trivial
    | conflict => trivial

/-- What chassis reset leaves of the ranges (R48, R134, R185). -/
theorem chassisResetAll (s : State) :
    RangesKept { s with drive := Drive.reset, alloc := allocChassisReset s.supply.stage s.alloc } (chassisResetAll s) := by
  unfold Machine.chassisResetAll
  extract_lets -lift r _ s1
  have reset : RangesKept { s with drive := Drive.reset, alloc := allocChassisReset s.supply.stage s.alloc } s1 :=
    ⟨rfl, rfl, rfl⟩
  exact ((reset.trans (resetSilence .p s1)).trans (resetSilence .w _)).trans (resetSilence .s _)

end RangesKept

/-- A property holds of what an execution leaves when it survives all that the execution may do. -/
theorem leaves_mono {P Q : State → Prop} {e : Exec} (h : Leaves P e) (hpq : ∀ t, P t → Q t) : Leaves Q e := by
  cases e with
  | good reply t => exact hpq t h
  | accepted k reply t => exact hpq t h
  | check r v => trivial
  | conflict => trivial

/-- A condition on the ranges is kept by every primitive effect when power-on, chassis reset, SUPPLY CLEAR, the motion
period and the supply period keep it. -/
theorem keptByEffects_of_ranges {P : State → Prop} (kept : ∀ {s t}, P s → RangesKept s t → P t)
    (powerOn : ∀ s, P (powerOn s)) (reset : ∀ s, P s → P (chassisResetAll s))
    (clear : ∀ l c s, P s → Leaves P (supplyClearBody l c s)) (motion : ∀ m s, P s → P (motionPeriod m s))
    (supply : ∀ x shunt s, P s → P (supplyPeriod x shunt s).1) : KeptByEffects P := by
  refine keptByEffects_of_vehicle (fun h k => kept h k.ranges) powerOn ?_ (fun l s h => kept h (.silenceTimeout l s))
    motion supply
  intro n _ l c s h _ _
  by_cases hc : n = .supplyClear
  · subst hc
    exact clear l c s h
  · by_cases hr : n = .chassisReset
    · subst hr
      simp only [runBody, chassisResetBody]
      split
      · trivial
      · exact reset s h
    · exact leaves_mono (RangesKept.runBody hc hr l c s) fun t k => kept h k

/-! ## The targets (R36) -/

theorem targetsFit_of_targets {s t : State} (h : targetsFit s) (ht : t.drive.targets = s.drive.targets) :
    targetsFit t := by
  unfold targetsFit
  rwa [ht]

theorem targetsFit_reset : targetsFit State.reset := by
  simp [targetsFit, State.reset, Drive.reset]

theorem wheelTarget_range (b factor : Int) (g : Nat) : -4000 ≤ wheelTarget b factor g ∧ wheelTarget b factor g ≤ 4000 :=
  ⟨le_clampInt (by decide), clampInt_le (by decide)⟩

/-- The drive that the motion period computes, before the wheel states of its end (R25). -/
def motionDrive (m : Nat) (s : State) : Drive :=
  motionCompute s.chassis.profile (sampleServo m (steerStep s.chassis.profile s.steer)) s.winch s.alloc.gD s.drive

theorem motionPeriod_drive (m : Nat) (s : State) : (motionPeriod m s).drive =
    { motionDrive m s with wheelStates := (motionPeriod m s).wheels.map fun c => c.state } := by
  unfold motionPeriod motionDrive
  dsimp only
  split
  · simp only [handHold_drive]
  · rfl

theorem targetsFit_motionPeriod (m : Nat) (s : State) : targetsFit (motionPeriod m s) := by
  unfold targetsFit
  rw [motionPeriod_drive]
  exact ⟨rfl, rfl, wheelTarget_range _ _ _, wheelTarget_range _ _ _⟩

/-- A stage change moves no target and no factor (R117). -/
theorem changeStage_targets (new : Stage) (cause : StageCause) (s : State) :
    (changeStage new cause s).drive.targets = s.drive.targets := by
  unfold changeStage
  dsimp only
  split
  · exact (RangesKept.cutoffEntry _).targets
  · rfl

theorem downStep_targets (s : State) : (downStep s).1.drive.targets = s.drive.targets := by
  unfold downStep
  dsimp only
  split
  · split
    · exact changeStage_targets _ _ s
    · rfl
  · rfl

theorem upStep_targets (s : State) : (upStep s).1.drive.targets = s.drive.targets := by
  unfold upStep
  dsimp only
  split
  · split
    · exact changeStage_targets _ _ s
    · rfl
  · rfl

theorem stageDecision_targets (s : State) : (stageDecision s).1.drive.targets = s.drive.targets := by
  unfold stageDecision
  dsimp only
  split
  · dsimp only
    split
    · rfl
    · exact changeStage_targets _ _ _
  · split
    · rfl
    all_goals
      split
      · exact downStep_targets s
      · exact (upStep_targets _).trans (downStep_targets s)

theorem supplyPeriod_targets (x : Taps) (shunt : Int) (s : State) :
    (supplyPeriod x shunt s).1.drive.targets = s.drive.targets :=
  stageDecision_targets _

theorem targetsFit_kept : KeptByEffects targetsFit :=
  keptByEffects_of_ranges (fun h k => targetsFit_of_targets h k.targets)
    (powerOn := fun _ => targetsFit_of_targets targetsFit_reset rfl)
    (reset := fun s _ => targetsFit_of_targets targetsFit_reset (RangesKept.chassisResetAll s).targets)
    (clear := fun l c s h => by
      unfold supplyClearBody
      split
      · split
        · exact targetsFit_of_targets h (changeStage_targets _ _ s)
        · trivial
      all_goals exact h)
    (motion := fun m s _ => targetsFit_motionPeriod m s)
    (supply := fun x shunt s h => targetsFit_of_targets h (supplyPeriod_targets x shunt s))

/-! ## The factors (R128 to R130) -/

theorem feedback_le {rise g i cap : Nat} (h : g ≤ 1024) : feedback rise g i cap ≤ 1024 := by
  unfold feedback
  split
  · next hi =>
    split
    · exact Nat.zero_le _
    · calc g * cap / i ≤ g * i / i := Nat.div_le_div_right (Nat.mul_le_mul_left g hi.le)
        _ = g := Nat.mul_div_cancel g (by omega)
        _ ≤ 1024 := h
  · exact Nat.min_le_right _ _

theorem feedbackIn_le {stage : Stage} {rise g i cap : Nat} (h : g ≤ 1024) : feedbackIn stage rise g i cap ≤ 1024 := by
  cases stage with
  | cutoff => exact Nat.zero_le _
  | normal | conserve | limit => exact feedback_le h

theorem lightsGovernor_le (iLest capL : Nat) : lightsGovernor iLest capL ≤ 1024 := by
  unfold lightsGovernor
  split
  · exact le_rfl
  · next h =>
    calc 1024 * capL / iLest ≤ 1024 * iLest / iLest := Nat.div_le_div_right (Nat.mul_le_mul_left _ (by omega))
      _ = 1024 := Nat.mul_div_cancel _ (by omega)

/-- An allocation from factors in range leaves factors in range, those of the drive and the winch at 0 in CUTOFF. -/
theorem factorsFit_allocationStep {s : State} (hD : s.alloc.gD ≤ 1024) (hW : s.alloc.gW ≤ 1024) :
    factorsFit (allocationStep s) := by
  refine ⟨feedbackIn_le hD, feedbackIn_le hW, lightsGovernor_le _ _, fun hc => ?_⟩
  rw [allocationStep_supply] at hc
  simp [allocationStep, allocate, feedbackIn, hc]

theorem factorsFit_supplyPeriod {x : Taps} {shunt : Int} {s : State} (h : factorsFit s) :
    factorsFit (supplyPeriod x shunt s).1 := by
  obtain ⟨hD, hW, -, -⟩ := h
  unfold supplyPeriod
  refine factorsFit_allocationStep ?_ ?_
  · simpa using hD
  · simpa using hW

theorem factorsFit_of_kept {s t : State} (h : factorsFit s) (ha : t.alloc = s.alloc)
    (hs : t.supply.stage = .cutoff → s.supply.stage = .cutoff) : factorsFit t := by
  obtain ⟨hD, hW, hL, hc⟩ := h
  unfold factorsFit
  rw [ha]
  exact ⟨hD, hW, hL, fun hx => hc (hs hx)⟩

theorem changeStage_stage (new : Stage) (cause : StageCause) (s : State) :
    (changeStage new cause s).supply.stage = new := by
  unfold changeStage
  dsimp only
  split <;> simp

theorem factorsFit_chassisResetAll (s : State) : factorsFit (chassisResetAll s) := by
  refine factorsFit_of_kept (s := { s with alloc := allocChassisReset s.supply.stage s.alloc }) ?_
    (RangesKept.chassisResetAll s).alloc fun hc => by simpa using hc
  by_cases h : s.supply.stage = .cutoff <;> simp [factorsFit, allocChassisReset, h]

theorem factorsFit_kept : KeptByEffects factorsFit :=
  keptByEffects_of_ranges (fun h k => factorsFit_of_kept h k.alloc fun hc => by rwa [k.supply] at hc)
    (powerOn := fun _ => ⟨le_rfl, le_rfl, le_rfl, fun h => nomatch h⟩)
    (reset := fun s _ => factorsFit_chassisResetAll s)
    (clear := fun l c s h => by
      unfold supplyClearBody
      split
      · split
        · exact factorsFit_of_kept h (by simp) fun hc => by simp [changeStage_stage] at hc
        · trivial
      all_goals exact h)
    (motion := fun m s h => factorsFit_of_kept h (by simp) fun hc => by simpa using hc)
    (supply := fun x shunt s h => factorsFit_supplyPeriod h)

end Sys2Proof.Machine.MotionGeometry
end

section
/-! The tow link's condition, kept by every step (section 5.11, R34, R38, R40, R102, R104). -/

namespace Sys2Proof.Machine.MotionGeometry

/-! ## The condition by cases -/

theorem towFits_none {s : State} (h : s.winch.tow = none) : towFits s ↔ s.drive.state ≠ .towing := by
  simp [towFits, h]

theorem towFits_some {s : State} {w : TowLink} (h : s.winch.tow = some w) :
    towFits s ↔ s.drive.state = .towing ∧ s.disp.holders.winch = some w.owner ∧ (s.ports.get w.owner).link = .active ∧
      (s.disp.holders.drive = none ∨ s.disp.holders.drive = some w.owner) ∧ s.supply.stage ≠ .cutoff := by
  simp [towFits, h]

/-- The condition survives what keeps the record, the reservations and the ACTIVE links and neither leaves or enters TOWING
nor enters CUTOFF. -/
theorem towFits_of_kept {s t : State} (h : towFits s) (tow : t.winch.tow = s.winch.tow)
    (state : t.drive.state = .towing ↔ s.drive.state = .towing) (holders : t.disp.holders = s.disp.holders)
    (links : activeKept s.ports t.ports) (stage : t.supply.stage = .cutoff → s.supply.stage = .cutoff) : towFits t := by
  cases hw : s.winch.tow with
  | none =>
    rw [towFits_none hw] at h
    rw [towFits_none (tow.trans hw)]
    exact fun ht => h (state.mp ht)
  | some w =>
    obtain ⟨hstate, hwinch, hlink, hdrive, hstage⟩ := (towFits_some hw).mp h
    rw [towFits_some (tow.trans hw), holders]
    exact ⟨state.mpr hstate, hwinch, links _ hlink, hdrive, fun hc => hstage (stage hc)⟩

theorem VehicleKept.towFits {s t : State} (k : VehicleKept s t) (h : towFits s) : towFits t :=
  towFits_of_kept h k.tow (by rw [k.state]) k.holders k.links fun hc => by rwa [k.supply] at hc

/-! ## The ends of a tow link -/

theorem driveState_ne_towing (c : TowCause) : c.driveState ≠ .towing := by
  cases c <;> decide

theorem afterStop_ne_towing (st : DriveState) : st.afterStop ≠ .towing := by
  cases st <;> decide

/-- The drive after the end of a tow link, when one exists (R34, R104). -/
theorem endTow_state_of_some {c : TowCause} {w : TowLink} {s : State} (h : s.winch.tow = some w) :
    (endTow c s).drive.state = c.driveState := by
  simp [endTow_of_some h, Drive.zeroed]

/-- The end of a tow link restores the condition whatever else of it had failed. -/
theorem towFits_endTow {c : TowCause} {s : State} (h : s.winch.tow = none → s.drive.state ≠ .towing) :
    towFits (endTow c s) := by
  rw [towFits_none (by simp)]
  cases hw : s.winch.tow with
  | none =>
    rw [endTow_of_none hw]
    exact h hw
  | some w =>
    rw [endTow_state_of_some hw]
    exact driveState_ne_towing c

theorem unlinked_of_towFits {s : State} (h : towFits s) (hw : s.winch.tow = none) : s.drive.state ≠ .towing :=
  (towFits_none hw).mp h

theorem towFits_haltDrive {st : DriveState} {release : Bool} {s : State} (hst : st ≠ .towing) (hw : s.winch.tow = none) :
    towFits (haltDrive st release s) := by
  rw [towFits_none (by simpa using hw)]
  simpa [Drive.zeroed] using hst

theorem towFits_stopDrive {s : State} (hw : s.winch.tow = none) : towFits (stopDrive s) :=
  towFits_haltDrive (afterStop_ne_towing _) hw

/-! ## The silence of a link (R22, R172, R173) -/

theorem driveAffected_of_other {l : Link} {s : State} {w : TowLink} (hw : s.winch.tow = some w) (hl : w.owner ≠ l) :
    driveAffected l s = false := by
  simp [driveAffected, hw, hl]

theorem ownsTow_iff {l : Link} {s : State} : ownsTow l s = true ↔ s.winch.tow.map TowLink.owner = some l := by
  unfold ownsTow
  cases s.winch.tow <;> simp

/-- Failsafe of the tow link's owner: the tow link ends and the drive is in SAFE_HOLD (R22, R104). -/
theorem towFits_failsafe_owner {l : Link} {s : State} {w : TowLink} (hw : s.winch.tow = some w) (hl : w.owner = l) :
    towFits (failsafe l s) := by
  obtain ⟨t, halted, ended⟩ := failsafe_vehicle l s
  have htow : t.winch.tow = some w := by
    rw [halted.tow, ← hw]
    split <;> simp
  rw [if_pos (ownsTow_iff.mpr (by simp [htow, hl]))] at ended
  exact ended.towFits (towFits_endTow fun hn => by simp [htow] at hn)

/-- Failsafe of another link moves neither the drive nor the tow link (R22). -/
theorem towFits_failsafe_other {l : Link} {s : State} {w : TowLink} (h : towFits s) (hw : s.winch.tow = some w)
    (hl : w.owner ≠ l) : towFits (failsafe l s) := by
  obtain ⟨t, halted, ended⟩ := failsafe_vehicle l s
  rw [driveAffected_of_other hw hl, if_neg Bool.false_ne_true] at halted
  have hown : ¬ownsTow l t = true := by simp [ownsTow_iff, halted.tow, hw, hl]
  rw [if_neg hown] at ended
  exact (halted.trans ended).towFits h

/-- Failsafe without a tow link (R22). -/
theorem towFits_failsafe_none {l : Link} {s : State} (h : s.drive.state ≠ .towing) (hw : s.winch.tow = none) :
    towFits (failsafe l s) := by
  obtain ⟨t, halted, ended⟩ := failsafe_vehicle l s
  have hstart : towFits (if driveAffected l s then haltDrive .safeHold false s else s) := by
    split
    · exact towFits_haltDrive (by decide) hw
    · exact (towFits_none hw).mpr h
  have ht := halted.towFits hstart
  split at ended
  · exact ended.towFits (towFits_endTow (unlinked_of_towFits ht))
  · exact ended.towFits ht

theorem towFits_goSilent {l : Link} {s : State} (h : towFits s) : towFits (goSilent l s) := by
  unfold goSilent
  cases hw : s.winch.tow with
  | none =>
    have hfree := unlinked_of_towFits h hw
    exact towFits_failsafe_none hfree hw
  | some w =>
    by_cases hl : w.owner = l
    · exact towFits_failsafe_owner hw hl
    · refine towFits_failsafe_other ?_ hw hl
      obtain ⟨hstate, hwinch, hlink, hdrive, hstage⟩ := (towFits_some hw).mp h
      refine (towFits_some (s := setPort l _ s) hw).mpr ⟨hstate, hwinch, ?_, hdrive, hstage⟩
      rw [setPort_get_other _ _ hl]
      exact hlink

theorem towFits_silenceTimeout {l : Link} {s : State} (h : towFits s) : towFits (silenceTimeout l s) := by
  unfold silenceTimeout
  split
  · exact towFits_goSilent h
  · exact h

theorem towFits_resetSilence {l : Link} {s : State} (h : towFits s) : towFits (resetSilence l s) := by
  rcases resetSilence_vehicle l s with k | k
  · exact k.towFits h
  · rw [k]
    exact towFits_goSilent h

theorem towFits_chassisResetAll (s : State) : towFits (chassisResetAll s) := by
  unfold chassisResetAll
  extract_lets -lift r _ s1
  have hs1 : towFits s1 := (towFits_none rfl).mpr fun hn => by cases hn
  exact towFits_resetSilence (towFits_resetSilence (towFits_resetSilence hs1))

/-! ## The motion period (R38) -/

theorem nextDriveState_towing (st : DriveState) (b cmd : Int) : nextDriveState st b cmd = .towing ↔ st = .towing := by
  cases st with
  | towing | safeHold => simp [nextDriveState]
  | holding | driving =>
    simp only [nextDriveState]
    split <;> simp

theorem motionPeriod_towing (m : Nat) (s : State) :
    (motionPeriod m s).drive.state = .towing ↔ s.drive.state = .towing := by
  rw [motionPeriod_drive]
  exact nextDriveState_towing _ _ _

theorem motionPeriod_portsKept (m : Nat) (s : State) : portsKept s (motionPeriod m s) := by
  unfold motionPeriod
  dsimp only
  split
  · intro l
    exact handHold_portsKept false _ l
  · exact .refl s

theorem towFits_motionPeriod {m : Nat} {s : State} (h : towFits s) : towFits (motionPeriod m s) :=
  towFits_of_kept h (by simp) (motionPeriod_towing m s) (by simp)
    (activeKept_of_portsKept (motionPeriod_portsKept m s)) fun hc => by simpa using hc

/-! ## The stage (R41, R117) -/

theorem towFits_setSupply {x : Supply} {s : State} (h : towFits s) (hx : x.stage = .cutoff → s.supply.stage = .cutoff) :
    towFits (setSupply x s) :=
  towFits_of_kept h rfl .rfl rfl (fun _ h => h) hx

/-- An entry to CUTOFF leaves no tow link and no drive in TOWING. -/
theorem towFits_cutoffEntry (s : State) : towFits (cutoffEntry s) :=
  towFits_stopDrive (by simp)

theorem towFits_changeStage {new : Stage} {cause : StageCause} {s : State} (h : towFits s) :
    towFits (changeStage new cause s) := by
  unfold changeStage
  dsimp only
  split
  · exact towFits_cutoffEntry _
  · next hnew =>
    have moved : towFits (setSupply { s.supply with stage := new, down := 0, up := 0, candidate := none } s) :=
      towFits_setSupply h fun hc => absurd hc hnew
    exact ((VehicleKept.offer _ _).trans (.postAll _ _)).towFits moved

theorem towFits_downStep {s : State} (h : towFits s) : towFits (downStep s).1 := by
  unfold downStep
  dsimp only
  split
  · split
    · exact towFits_changeStage h
    · exact towFits_setSupply h id
  · exact towFits_setSupply h id

theorem towFits_upStep {s : State} (h : towFits s) : towFits (upStep s).1 := by
  unfold upStep
  dsimp only
  split
  · split
    · exact towFits_changeStage h
    · exact towFits_setSupply h id
  · exact towFits_setSupply h id

theorem towFits_stageDecision {s : State} (h : towFits s) : towFits (stageDecision s).1 := by
  unfold stageDecision
  dsimp only
  split
  · have h1 : towFits (setSupply { s.supply with initialPending := false } s) := towFits_setSupply h id
    dsimp only
    split
    · exact towFits_setSupply h1 fun hc => by cases hc
    · exact towFits_changeStage h1
  · split
    · exact towFits_setSupply h id
    all_goals
      split
      · exact towFits_downStep h
      · exact towFits_upStep (towFits_downStep h)

theorem towFits_supplyPeriod {x : Taps} {shunt : Int} {s : State} (h : towFits s) :
    towFits (supplyPeriod x shunt s).1 := by
  have measured : towFits (setSupply { supplyMeasure s.chassis.profile x shunt s.supply with
      x := classify s.chassis.profile (supplyMeasure s.chassis.profile x shunt s.supply).vComp } s) :=
    towFits_setSupply h id
  exact towFits_of_kept (towFits_stageDecision measured) rfl .rfl rfl (fun _ h => h) id

/-! ## Reservations (R9 to R11, R21) -/

/-- A reservation may change where it leaves WINCH with the tow link's owner and DRIVE with nobody else. -/
theorem towFits_setHolder {u : UnitId} {m : Option Link} {s : State} (h : towFits s)
    (hd : ∀ w, s.winch.tow = some w → u = .drive → m = none ∨ m = some w.owner)
    (hw : ∀ w, s.winch.tow = some w → u = .winch → m = some w.owner) : towFits (setHolder u m s) := by
  cases htow : s.winch.tow with
  | none =>
    have hfree := unlinked_of_towFits h htow
    exact (towFits_none (s := setHolder u m s) htow).mpr hfree
  | some w =>
    obtain ⟨hstate, hwinch, hlink, hdrive, hstage⟩ := (towFits_some htow).mp h
    refine (towFits_some (s := setHolder u m s) htow).mpr ⟨hstate, ?_, hlink, ?_, hstage⟩
    · cases u with
      | winch => exact hw w htow rfl
      | drive | steer | lights | supply | chassis | all => exact hwinch
    · cases u with
      | drive => exact hd w htow rfl
      | winch | steer | lights | supply | chassis | all => exact hdrive

theorem towFits_reserveBody {l : Link} {c : Command} {s : State} (h : towFits s) :
    Leaves towFits (reserveBody l c s) := by
  unfold reserveBody
  split
  · trivial
  · next u _ =>
    split
    · trivial
    · next hother =>
      have hdrive : ∀ w, s.winch.tow = some w → u = .drive → some l = none ∨ some l = some w.owner := by
        rintro w hw rfl
        simp only [true_and, towOfAnother, hw, Option.isSome_some, Bool.true_and, Bool.not_eq_true',
          Bool.not_eq_false, ownsTow_iff, Option.map_some, Option.some.injEq] at hother
        exact .inr (congrArg some hother.symm)
      split
      · next hfree =>
        refine towFits_setHolder h hdrive ?_
        rintro w hw rfl
        obtain ⟨-, hwinch, -⟩ := (towFits_some hw).mp h
        simp [Holders.get, hwinch] at hfree
      · next m hheld =>
        split
        · exact h
        · split
          · next hpre =>
            refine (VehicleKept.setDisp rfl).towFits (towFits_setHolder h hdrive ?_)
            rintro w hw rfl
            obtain ⟨-, hwinch, hlink, -⟩ := (towFits_some hw).mp h
            obtain rfl : w.owner = m := by simpa [Holders.get, hwinch] using hheld
            simp [mayPreempt, hlink] at hpre
          · trivial

theorem towFits_releaseBody {l : Link} {c : Command} {s : State} (h : towFits s) :
    Leaves towFits (releaseBody l c s) := by
  unfold releaseBody
  split
  · trivial
  · next u _ =>
    extract_lets -lift s1
    obtain ⟨htow, hstate⟩ : s1.winch.tow = s.winch.tow ∧ s1.drive.state = s.drive.state := by
      unfold s1
      split <;> exact ⟨rfl, rfl⟩
    show towFits _
    split
    · refine towFits_endTow fun hn => ?_
      rw [hstate]
      exact unlinked_of_towFits h (htow ▸ hn)
    · next hown =>
      unfold s1
      split
      · next hheld =>
        refine towFits_setHolder h (fun _ _ _ => .inl rfl) ?_
        rintro w hw rfl
        obtain ⟨-, hwinch, -⟩ := (towFits_some hw).mp h
        rw [Holders.get, hwinch] at hheld
        exact absurd ⟨rfl, ownsTow_iff.mpr (by rw [hw]; exact hheld)⟩ hown
      · exact h

theorem towFits_releaseLink {l : Link} {s : State} (h : towFits s) : towFits (releaseLink l s) := by
  unfold releaseLink
  extract_lets -lift _ s1
  split
  · exact towFits_endTow (unlinked_of_towFits (s := s) h)
  · next hown =>
    cases hw : s.winch.tow with
    | none =>
      have hfree := unlinked_of_towFits h hw
      exact (towFits_none (s := s1) hw).mpr hfree
    | some w =>
      obtain ⟨hstate, hwinch, hlink, hdrive, hstage⟩ := (towFits_some hw).mp h
      have hl : w.owner ≠ l := by
        rintro rfl
        exact hown ⟨hwinch, ownsTow_iff.mpr (by rw [hw]; rfl)⟩
      have keepsWinch : (s.disp.holders.releaseAll l).winch = some w.owner := by
        have hget := s.disp.holders.get_releaseAll l .winch
        rw [if_neg (by simpa [Holders.get, hwinch] using hl)] at hget
        exact hget.trans hwinch
      have keepsDrive : (s.disp.holders.releaseAll l).drive = none ∨
          (s.disp.holders.releaseAll l).drive = s.disp.holders.drive := by
        have hget := s.disp.holders.get_releaseAll l .drive
        by_cases hd : s.disp.holders.get .drive = some l
        · exact .inl (hget.trans (if_pos hd))
        · exact .inr (hget.trans (if_neg hd))
      refine (towFits_some (s := s1) hw).mpr ⟨hstate, keepsWinch, hlink, ?_, hstage⟩
      rcases keepsDrive with hd | hd
      · exact .inl hd
      · exact hdrive.imp hd.trans hd.trans

theorem VehicleKept.dropWinchOp (l : Link) (s : State) : VehicleKept s (dropWinchOp l s) := by
  unfold Machine.dropWinchOp
  split
  · exact (setWinch).trans (setDisp rfl)
  · exact refl s

theorem VehicleKept.dropLightsOp (l : Link) (s : State) : VehicleKept s (dropLightsOp l s) := by
  unfold Machine.dropLightsOp
  split
  · exact (setLights _ s).trans (setDisp rfl)
  · exact refl s

theorem VehicleKept.disownCommit (l : Link) (s : State) : VehicleKept s (disownCommit l s) := by
  unfold Machine.disownCommit
  split
  · exact setDisp rfl
  · exact refl s

theorem VehicleKept.linkReset (l : Link) (s : State) :
    VehicleKept s (Machine.setPort l (s.ports.get l).linkReset s) := setPort fun h => h

theorem towFits_linkResetAll {l : Link} {s : State} (h : towFits s) : towFits (linkResetAll l s) := by
  have dropped := ((VehicleKept.dropWinchOp l (releaseLink l s)).trans (.dropLightsOp l _)).trans (.disownCommit l _)
  exact ((((dropped.trans (.setLights _ _)).trans (.linkReset l _)).trans (.setDisp rfl))).towFits
    (towFits_releaseLink h)

/-! ## The other commands that move the vehicle -/

theorem towFits_driveSetBody (l : Link) {c : Command} {s : State} (h : towFits s) (hb : busy .driveSet c s = false) :
    Leaves towFits (driveSetBody l c s) := by
  have hw : s.winch.tow = none := by simpa [busy] using hb
  unfold driveSetBody
  split
  · trivial
  · refine (towFits_none (by simpa using hw)).mpr ?_
    rw [takeThrottle_drive]
    unfold storeThrottle
    dsimp only
    split
    · decide
    · exact unlinked_of_towFits h hw

/-- TOW ASSIST on makes a tow link only for the holder of WINCH, with DRIVE free or its own, outside CUTOFF (R40, R102). -/
theorem towFits_towAssistBody {l : Link} {c : Command} {s : State} (h : towFits s) (hl : (s.ports.get l).link = .active) :
    Leaves towFits (towAssistBody l c s) := by
  unfold towAssistBody
  split
  · unfold towAssistOnBody
    split
    · exact h
    · split
      · trivial
      · next hwinch =>
        split
        · trivial
        · next hdrive =>
          split
          · trivial
          · next hcut =>
            refine (towFits_some (s := createTow l s) rfl).mpr ⟨rfl, not_not.mp hwinch, hl, ?_, ?_⟩
            · exact or_iff_not_imp_left.mpr fun hn => not_not.mp fun hx => hdrive ⟨hn, hx⟩
            · simpa [inCutoff] using hcut
  · exact towFits_endTow (unlinked_of_towFits h)

theorem towFits_runBody {n : CmdName} (hn : n ∈ vehicleCommands) {l : Link} {c : Command} {s : State} (h : towFits s)
    (hl : (s.ports.get l).link = .active) (hb : busy n c s = false) : Leaves towFits (runBody n l c s) := by
  simp only [vehicleCommands, List.mem_cons, List.not_mem_nil, or_false] at hn
  rcases hn with rfl | rfl | rfl | rfl | rfl | rfl | rfl | rfl | rfl
  · exact towFits_reserveBody h
  · exact towFits_releaseBody h
  · exact towFits_linkResetAll h
  · exact towFits_driveSetBody l h hb
  · exact towFits_haltDrive (by decide) (by simp)
  · exact towFits_stopDrive (by simp)
  · exact towFits_towAssistBody h hl
  · simp only [runBody, supplyClearBody]
    split
    · split
      · exact towFits_changeStage h
      · trivial
    all_goals exact h
  · simp only [runBody, chassisResetBody]
    split
    · trivial
    · exact towFits_chassisResetAll s

theorem towFits_kept : KeptByEffects towFits :=
  keptByEffects_of_vehicle (fun h k => k.towFits h) (powerOn := fun _ => (towFits_none rfl).mpr fun hn => by cases hn)
    (body := fun _ hn _ _ _ h hl hb => towFits_runBody hn h hl hb) (silence := fun _ _ h => towFits_silenceTimeout h)
    (motion := fun _ _ h => towFits_motionPeriod h) (supply := fun _ _ _ h => towFits_supplyPeriod h)

/-- Settles O56: the primitive effects that move the vehicle keep the tow link's condition, so every step does. -/
theorem everyStepKeepsTheTowLink : Obligations.EveryStepKeepsTheTowLink :=
  fun _ _ h ht => towFits_kept.step h ht

end Sys2Proof.Machine.MotionGeometry
end

section
/-! The composed values and the outputs of the light engine, kept in range by every step (R142, R153, R155). -/

namespace Sys2Proof.Machine.MotionGeometry

/-! ## What most effects leave alone of the light engine -/

/-- The BASE record, the composed values and the outputs have not moved. -/
structure LightsKept (x y : Lights) : Prop where
  base : y.base = x.base
  composed : y.composed = x.composed
  outputs : y.outputs = x.outputs

namespace LightsKept

theorem refl (x : Lights) : LightsKept x x := ⟨rfl, rfl, rfl⟩

theorem of_eq {x y : Lights} (h : y = x) : LightsKept x y := h ▸ refl x

theorem trans {x y z : Lights} (h : LightsKept x y) (k : LightsKept y z) : LightsKept x z :=
  ⟨k.base.trans h.base, k.composed.trans h.composed, k.outputs.trans h.outputs⟩

theorem closeLink (l : Link) (x : Lights) : LightsKept x (closeLink l x) := ⟨rfl, rfl, rfl⟩

theorem patternRewritten (f : Field) (x : Lights) : LightsKept x (patternRewritten f x) :=
  ⟨by simp, by simp, by simp⟩

theorem restoreLights (store : Vector Frame 64) (t : Vector PatternDef 16) (old new : Profile) (x : Lights) :
    LightsKept x (restoreLights store t (patternsReplaced old new x)) :=
  ⟨patternsReplaced_base old new x, patternsReplaced_composed old new x, patternsReplaced_outputs old new x⟩

theorem toAuto (x : Lights) : LightsKept x (toAuto x) := by
  unfold Machine.toAuto
  split
  · exact refl x
  · exact ⟨rfl, rfl, rfl⟩

theorem toManual (x : Lights) : LightsKept x (toManual x) := by
  unfold Machine.toManual
  split
  · exact ⟨rfl, rfl, rfl⟩
  · exact refl x

/-- Failsafe closes the link's patterns and leaves the rest of the light engine alone (R22). -/
theorem failsafe (l : Link) (s : State) : LightsKept s.lights (failsafe l s).lights := by
  unfold Machine.failsafe
  extract_lets drive steer winch lights s1 s2 s3 s4 s5
  have h1 : s1.lights = s.lights := by
    unfold s1
    split <;> simp
  have h2 : s2.lights = s1.lights := by
    unfold s2
    split <;> rfl
  have h3 : s3.lights = s2.lights := by
    unfold s3
    split <;> simp
  have h4 : s4.lights = s3.lights := by
    unfold s4
    split <;> simp
  have h5 : LightsKept s.lights s5.lights := by
    rw [← h1, ← h2, ← h3, ← h4]
    exact closeLink l s4.lights
  split
  · simpa using h5
  · exact h5

theorem goSilent (l : Link) (s : State) : LightsKept s.lights (goSilent l s).lights := by
  have silent (q : Port) : LightsKept s.lights (setPort l q s).lights := refl s.lights
  exact (silent _).trans (failsafe l _)

theorem silenceTimeout (l : Link) (s : State) : LightsKept s.lights (silenceTimeout l s).lights := by
  unfold Machine.silenceTimeout
  split
  · exact goSilent l s
  · exact refl s.lights

theorem resetSilence (l : Link) (s : State) : LightsKept s.lights (resetSilence l s).lights := by
  unfold Machine.resetSilence
  extract_lets q timeout
  split
  · exact refl s.lights
  · split
    · exact refl s.lights
    · split
      · exact refl s.lights
      · split
        · exact goSilent l s
        · exact refl s.lights

end LightsKept

/-- The commands that may move the BASE record. -/
def baseCommands : List CmdName := [.showPattern, .linkReset, .chassisReset]

/-- Every other command leaves the BASE record, the composed values and the outputs so. -/
theorem runBody_lightsKept {n : CmdName} (hn : n ∉ baseCommands) (l : Link) (c : Command) (s : State) :
    Leaves (fun t => LightsKept s.lights t.lights) (runBody n l c s) := by
  cases n with
  | showPattern | linkReset | chassisReset => exact absurd (by decide) hn
  | identify | reportDrive | reportSteer | reportWinch | reportSupply | reportSense | setNotices | steerSet | steerMode
  | winchFree => exact .refl _
  | profileRead =>
    simp only [runBody, profileReadBody]
    split
    · trivial
    · exact .refl _
  | reportLights =>
    simp only [runBody, reportLightsBody]
    split
    · exact .refl _
    · exact .refl _
    · exact .refl _
    · split
      · trivial
      · exact .refl _
    · split
      · trivial
      · exact .refl _
  | profileWrite =>
    simp only [runBody, profileWriteBody]
    split
    · trivial
    · split
      · rw [leaves_good, fieldWritten_lights, storeField_lights]
        unfold restartWhenChanged
        split
        · exact .of_eq (by simp)
        · exact (LightsKept.of_eq (by simp)).trans (.patternRewritten _ _)
      · trivial
  | profileCommit =>
    simp only [runBody, profileCommitBody]
    split
    · trivial
    · exact .refl _
  | profileRestore =>
    simp only [runBody, profileRestoreBody]
    split
    · trivial
    · rw [leaves_good, restoredEffects_lights]
      exact .restoreLights _ _ _ _ _
  | steerTrim => exact .of_eq (storeField_lights _ _ s)
  | reserve =>
    simp only [runBody, reserveBody]
    split
    · trivial
    · split
      · trivial
      · split
        · exact .refl _
        · split
          · exact .refl _
          · split
            · exact .refl _
            · trivial
  | release =>
    simp only [runBody, releaseBody]
    split
    · trivial
    · refine .of_eq ?_
      split
      · rw [endTow_lights]
        split <;> rfl
      · split <;> rfl
  | driveSet =>
    simp only [runBody, driveSetBody]
    split
    · trivial
    · exact .of_eq (takeThrottle_lights _ s)
  | driveHold | stopAll => exact .of_eq (by simp)
  | winchRun =>
    simp only [runBody, winchRunBody]
    split
    · trivial
    · split
      · trivial
      · exact .refl _
  | winchStop => exact .of_eq (endWinchOp_lights _ s)
  | winchToLength =>
    simp only [runBody, winchToLengthBody]
    split
    · trivial
    · split
      · trivial
      · split
        · trivial
        · exact .refl _
  | winchReference =>
    simp only [runBody, winchReferenceBody]
    split
    · trivial
    · split
      · trivial
      · exact .refl _
  | towAssist =>
    simp only [runBody, towAssistBody]
    split
    · unfold towAssistOnBody
      split
      · exact .refl _
      · split
        · trivial
        · split
          · trivial
          · split
            · trivial
            · exact .refl _
    · exact .of_eq (endTow_lights _ s)
  | lightWrite =>
    simp only [runBody, lightWriteBody]
    split
    · trivial
    · exact ⟨rfl, rfl, rfl⟩
  | lightDefine =>
    simp only [runBody, lightDefineBody]
    split
    · trivial
    · split
      · trivial
      · exact ⟨rfl, rfl, rfl⟩
  | overlaySet =>
    simp only [runBody, overlaySetBody]
    split
    · trivial
    · exact ⟨rfl, rfl, rfl⟩
  | lightAuto =>
    simp only [runBody, lightAutoBody]
    show LightsKept s.lights (if _ then _ else _)
    split
    · exact .toAuto _
    · exact .toManual _
  | supplyClear =>
    simp only [runBody, supplyClearBody]
    split
    · split
      · exact .of_eq (changeStage_lights _ _ s)
      · trivial
    all_goals exact .refl _

/-! ## The condition, apart from the factor -/

/-- The levels of the BASE record are intensities, every composed value is one, and no output exceeds its composed value. -/
def lightsInRange (x : Lights) : Prop :=
  baseFits x.base ∧ ∀ c : Fin 24, x.composed[c] ≤ 254 ∧ x.outputs[c] ≤ x.composed[c]

theorem outputsFit_iff (s : State) : outputsFit s ↔ lightsInRange s.lights ∧ s.alloc.gL ≤ 1024 := by
  unfold outputsFit lightsInRange
  tauto

theorem LightsKept.inRange {x y : Lights} (k : LightsKept x y) (h : lightsInRange x) : lightsInRange y := by
  unfold lightsInRange
  rw [k.base, k.composed, k.outputs]
  exact h

theorem lightsInRange_setBase {x : Lights} {b : Base} (h : lightsInRange x) (hb : baseFits b) :
    lightsInRange { x with base := b } :=
  ⟨hb, h.2⟩

/-! ## The BASE record (R142, R143, R145, R148) -/

theorem baseFits_endFade {b : Base} (h : baseFits b) : baseFits (endFade b) := by
  obtain ⟨hlive, hstaged, hfade⟩ := h
  refine ⟨hlive, hstaged, fun f hf => ?_⟩
  obtain ⟨g, hg, rfl⟩ := Option.map_eq_some_iff.mp hf
  exact hfade g hg

theorem baseFits_dropTransition {b : Base} (h : baseFits b) : baseFits (dropTransition b) := by
  obtain ⟨hlive, -, hfade⟩ := baseFits_endFade h
  refine ⟨hlive, fun g hg => ?_, hfade⟩
  obtain ⟨g', hg', rfl⟩ := Option.map_eq_some_iff.mp hg
  exact ⟨(h.2.1 g' hg').1, rfl⟩

/-- What SHOW PATTERN stages holds intensities: its level and its fill level are clamped (R143). -/
theorem stagedOf_fits (block : List Byte) (x : Lights) :
    sourceFits (stagedOf block x).1.source = true ∧ transitionFits (stagedOf block x).1.transition = true := by
  unfold stagedOf
  constructor
  · dsimp only
    split <;> simp [sourceFits]
  · dsimp only
    split
    · rfl
    · split <;> simp [transitionFits]

theorem baseFits_stage {b : Base} {g : Staged} (h : baseFits b)
    (hg : sourceFits g.source = true ∧ transitionFits g.transition = true) : baseFits { b with staged := some g } := by
  obtain ⟨hlive, -, hfade⟩ := h
  exact ⟨hlive, fun _ hx => Option.some.inj hx ▸ hg, hfade⟩

theorem baseFits_finishEnded {x : Lights} (h : baseFits x.base) : baseFits (finishEnded x).base := by
  obtain ⟨hlive, hstaged, hfade⟩ := h
  cases hf : x.base.fade with
  | none =>
    simp only [finishEnded, hf]
    exact ⟨hlive, hstaged, hfade⟩
  | some f =>
    obtain ⟨-, hin, -⟩ := hfade f hf
    simp only [finishEnded, hf]
    split
    · refine ⟨?_, hstaged, fun _ hx => (nomatch hx)⟩
      dsimp only
      split
      · exact hin
      · rwa [Live.start_source]
    · exact ⟨hlive, hstaged, hfade⟩

theorem baseFits_switchStaged {x : Lights} {g : Staged} (h : baseFits x.base) (hg : x.base.staged = some g) :
    baseFits (switchStaged x g).base := by
  obtain ⟨hlive, hstaged, hfade⟩ := h
  obtain ⟨hsource, htrans⟩ := hstaged g hg
  cases ht : g.transition with
  | cut =>
    simp only [switchStaged, ht]
    exact ⟨by rwa [Live.start_source], fun _ hx => (nomatch hx), hfade⟩
  | fade n =>
    simp only [switchStaged, ht]
    refine ⟨hlive, fun _ hx => (nomatch hx), fun f hf => ?_⟩
    obtain rfl := Option.some.inj hf
    exact ⟨hlive, by rwa [Live.start_source], Nat.zero_le _⟩
  | fill n level =>
    simp only [switchStaged, ht]
    refine ⟨hlive, fun _ hx => (nomatch hx), fun f hf => ?_⟩
    obtain rfl := Option.some.inj hf
    rw [ht] at htrans
    exact ⟨hlive, hsource, of_decide_eq_true htrans⟩

theorem baseFits_switchStep {x : Lights} (h : baseFits x.base) : baseFits (switchStep x).base := by
  have hended := baseFits_finishEnded h
  unfold switchStep
  dsimp only
  split
  · next g hg =>
    split
    · exact hended
    · exact baseFits_switchStaged hended hg
  · exact hended

theorem baseFits_advanceBase {x : Lights} (h : baseFits x.base) : baseFits (advanceBase x).1.base := by
  obtain ⟨hlive, hstaged, hfade⟩ := h
  cases hf : x.base.fade with
  | none =>
    simp only [advanceBase, hf]
    exact ⟨by rwa [Live.advance_source], hstaged, fun _ hx => (nomatch hx)⟩
  | some f =>
    obtain ⟨hout, hin, hfill⟩ := hfade f hf
    simp only [advanceBase, hf]
    refine ⟨hlive, hstaged, fun f' hf' => ?_⟩
    obtain rfl := Option.some.inj hf'
    refine ⟨by rwa [Live.advance_source], ?_, hfill⟩
    dsimp only
    split
    · rwa [Live.advance_source]
    · exact hin

/-- After step 3 a fade that goes on has not reached its last position (R146). -/
theorem baseFits_fadeStep {x : Lights} (h : baseFits x.base) :
    baseFits (fadeStep x).1.base ∧ ∀ f, (fadeStep x).1.base.fade = some f → f.k < f.n := by
  obtain ⟨hlive, hstaged, hfade⟩ := h
  cases hf : x.base.fade with
  | none =>
    simp only [fadeStep, hf]
    exact ⟨⟨hlive, hstaged, hfade⟩, fun _ hx => (nomatch hx)⟩
  | some f =>
    obtain ⟨hout, hin, hfill⟩ := hfade f hf
    simp only [fadeStep, hf]
    split
    · refine ⟨⟨?_, hstaged, fun _ hx => (nomatch hx)⟩, fun _ hx => (nomatch hx)⟩
      dsimp only
      split
      · exact hin
      · rwa [Live.start_source]
    · next hk =>
      refine ⟨⟨hlive, hstaged, fun f' hf' => ?_⟩, fun f' hf' => ?_⟩
      all_goals obtain rfl := Option.some.inj hf'
      · exact ⟨hout, hin, hfill⟩
      · exact Nat.lt_of_not_le hk

/-! ## The value of a channel (R142, R146, R149, R152, R153) -/

theorem blendWeight_le {k n : Nat} (h : k < n) : blendWeight k n ≤ 32 := by
  unfold blendWeight
  rw [Nat.div_le_iff_le_mul (by omega)]
  omega

/-- A blend of two intensities is an intensity (R146). -/
theorem blend_le {old new a : Nat} (ho : old ≤ 254) (hn : new ≤ 254) (ha : a ≤ 32) :
    (old * (32 - a) + new * a + 16) / 32 ≤ 254 := by
  have h1 : old * (32 - a) ≤ 254 * (32 - a) := Nat.mul_le_mul_right _ ho
  have h2 : new * a ≤ 254 * a := Nat.mul_le_mul_right _ hn
  omega

theorem baseValue_le {x : Lights} (h : baseFits x.base) (hk : ∀ f, x.base.fade = some f → f.k < f.n) (ch : Nat) :
    baseValue x ch ≤ 254 := by
  obtain ⟨hlive, -, hfade⟩ := h
  cases hf : x.base.fade with
  | none =>
    simp only [baseValue, hf]
    exact Live.value_le x _ ch hlive
  | some f =>
    obtain ⟨hout, hin, hfill⟩ := hfade f hf
    simp only [baseValue, hf]
    refine blend_le (Live.value_le x _ ch hout) ?_ (blendWeight_le (hk f hf))
    split
    · exact Live.value_le x _ ch hin
    · exact hfill

/-- What lies under a layer shows only where the layer has PASS (R153). -/
theorem overPass_le {upper lower bound : Nat} (hu : upper ≤ 255) (hl : lower ≤ bound) (hb : 254 ≤ bound) :
    overPass upper lower ≤ bound := by
  unfold overPass passValue
  split
  · exact hl
  · omega

theorem autoValue_le (x : Lights) (a : AutoSource) (mirrored : Bool) (ch : Nat) : autoValue x a mirrored ch ≤ 255 := by
  unfold autoValue
  split
  · exact patternValue_le x _ _ _
  · exact le_rfl

theorem signalValue_le (x : Lights) (ch : Nat) : signalValue x ch ≤ 255 := by
  unfold signalValue
  split
  · exact overPass_le (autoValue_le x _ _ ch)
      (overPass_le (autoValue_le x _ _ ch) (autoValue_le x _ _ ch) (by decide)) (by decide)
  · split
    · exact patternValue_le x _ _ _
    · exact le_rfl

theorem alertValue_le (x : Lights) (ch : Nat) : alertValue x ch ≤ 255 := by
  unfold alertValue
  split
  · exact patternValue_le x _ _ _
  · exact le_rfl

/-- A composed value is an intensity: BASE has no PASS (R142, R153). -/
theorem composedValue_le {x : Lights} (h : baseFits x.base) (hk : ∀ f, x.base.fade = some f → f.k < f.n) (ch : Nat) :
    composedValue x ch ≤ 254 :=
  overPass_le (alertValue_le x ch) (overPass_le (signalValue_le x ch) (baseValue_le h hk ch) le_rfl) le_rfl

/-! ## The boundary (R141, R155) -/

theorem alertStep_base (p : Profile) (u : LightInputs) (x : Lights) : (alertStep p u x).1.base = x.base := by
  unfold alertStep
  split
  · rfl
  · dsimp only
    split <;> rfl

theorem signalStep_base (p : Profile) (u : LightInputs) (x : Lights) : (signalStep p u x).1.base = x.base := by
  unfold signalStep
  split <;> rfl

theorem baseFits_boundaryPlay {p : Profile} {u : LightInputs} {x : Lights} (h : baseFits x.base) :
    baseFits (boundaryPlay p u x).1.base ∧ ∀ f, (boundaryPlay p u x).1.base.fade = some f → f.k < f.n := by
  refine baseFits_fadeStep (baseFits_advanceBase ?_)
  rw [signalStep_base, alertStep_base]
  exact baseFits_switchStep h

theorem lightsInRange_composeStep {p : Profile} {g : Nat} {x : Lights} (hg : g ≤ 1024) (h : baseFits x.base)
    (hk : ∀ f, x.base.fade = some f → f.k < f.n) : lightsInRange (composeStep p g x) := by
  refine ⟨h, fun c => ?_⟩
  simp only [composeStep, Fin.getElem_fin, vecMap_get, chanVec_get]
  exact ⟨composedValue_le h hk c, dimmed_le _ g hg⟩

theorem outputsFit_lightBoundary {s : State} (h : outputsFit s) : outputsFit (lightBoundary s).1 := by
  rw [outputsFit_iff] at h ⊢
  obtain ⟨⟨hbase, -⟩, hg⟩ := h
  obtain ⟨hplay, hk⟩ := baseFits_boundaryPlay (p := s.chassis.profile) (u := lightInputs s) hbase
  have composed := lightsInRange_composeStep (p := s.chassis.profile) hg hplay hk
  refine ⟨?_, by simpa using hg⟩
  unfold lightBoundary
  dsimp only
  split
  · rw [endOp_lights]
    exact composed
  · exact composed

/-! ## Every step -/

theorem outputsFit_of_kept {s t : State} (h : outputsFit s) (hl : LightsKept s.lights t.lights)
    (ha : t.alloc = s.alloc) : outputsFit t := by
  rw [outputsFit_iff] at h ⊢
  exact ⟨hl.inRange h.1, by rw [ha]; exact h.2⟩

theorem outputsFit_showPatternBody (l : Link) {c : Command} {s : State} (h : outputsFit s) :
    Leaves outputsFit (showPatternBody l c s) := by
  have superseded : lightsInRange (supersede s).lights := by
    have hx := ((outputsFit_iff s).mp h).1
    unfold supersede
    split
    · rw [setLights_lights, endOp_lights]
      exact lightsInRange_setBase hx (baseFits_endFade hx.1)
    · exact hx
  have staged : ∀ g : Staged, sourceFits g.source = true ∧ transitionFits g.transition = true →
      outputsFit (setLights { (supersede s).lights with
        base := { (supersede s).lights.base with staged := some g } } (supersede s)) := fun g hg =>
    (outputsFit_iff _).mpr ⟨lightsInRange_setBase superseded (baseFits_stage superseded.1 hg),
      by simpa using ((outputsFit_iff s).mp h).2⟩
  unfold showPatternBody
  split
  · dsimp only
    split <;> exact staged _ (stagedOf_fits _ _)
  · trivial

theorem outputsFit_linkResetAll {l : Link} {s : State} (h : outputsFit s) : outputsFit (linkResetAll l s) := by
  have dropped : outputsFit (dropLightsOp l (dropWinchOp l (releaseLink l s))) := by
    have hs : outputsFit (dropWinchOp l (releaseLink l s)) := outputsFit_of_kept h (.of_eq (by simp)) (by simp)
    have hx := (outputsFit_iff _).mp hs
    unfold dropLightsOp
    split
    · exact (outputsFit_iff _).mpr ⟨lightsInRange_setBase hx.1 (baseFits_dropTransition hx.1.1), hx.2⟩
    · exact hs
  have disowned : outputsFit (disownCommit l (dropLightsOp l (dropWinchOp l (releaseLink l s)))) :=
    outputsFit_of_kept dropped (.of_eq (by simp)) (by simp)
  exact outputsFit_of_kept disowned (.closeLink l _) rfl

theorem startUpLive_fits (p : Profile) (x : Lights) : sourceFits (startUpLive p x).source = true := by
  unfold startUpLive
  dsimp only
  split <;> rw [Live.start_source] <;> rfl

theorem baseFits_lightsPowerOn (p : Profile) (store : Vector Frame 64) (t : Vector PatternDef 16) :
    baseFits (lightsPowerOn p store t).base :=
  ⟨startUpLive_fits p _, fun _ hx => (nomatch hx), fun _ hx => (nomatch hx)⟩

theorem outputsFit_powerOn (s : State) : outputsFit (powerOn s) := by
  refine ⟨baseFits_lightsPowerOn _ _ _, le_rfl, fun c => ?_⟩
  simp [powerOn, lightsPowerOn, restoreLights, Lights.reset]

theorem outputsFit_chassisResetAll {s : State} (h : outputsFit s) : outputsFit (chassisResetAll s) := by
  have hx := (outputsFit_iff s).mp h
  refine (outputsFit_iff _).mpr ⟨?_, ?_⟩
  · unfold chassisResetAll
    extract_lets -lift r _ s1
    have reset : lightsInRange s1.lights := ⟨baseFits_lightsPowerOn _ _ _, hx.1.2⟩
    exact (((LightsKept.resetSilence .p s1).trans (.resetSilence .w _)).trans (.resetSilence .s _)).inRange reset
  · rw [(RangesKept.chassisResetAll s).alloc]
    exact le_rfl

theorem outputsFit_runBody {n : CmdName} {l : Link} {c : Command} {s : State} (h : outputsFit s) :
    Leaves outputsFit (runBody n l c s) := by
  by_cases hn : n ∈ baseCommands
  · simp only [baseCommands, List.mem_cons, List.not_mem_nil, or_false] at hn
    rcases hn with rfl | rfl | rfl
    · exact outputsFit_showPatternBody l h
    · exact outputsFit_linkResetAll h
    · simp only [runBody, chassisResetBody]
      split
      · trivial
      · exact outputsFit_chassisResetAll h
  · have hl := runBody_lightsKept hn l c s
    have ha : Leaves (fun t => t.alloc = s.alloc) (runBody n l c s) := by
      by_cases hc : n = .supplyClear
      · subst hc
        simp only [runBody, supplyClearBody]
        split
        · split
          · exact changeStage_alloc _ _ s
          · trivial
        all_goals rfl
      · exact leaves_mono (RangesKept.runBody hc (by rintro rfl; exact hn (by decide)) l c s) fun _ k => k.alloc
    cases he : runBody n l c s with
    | good reply t =>
      rw [he] at hl ha
      exact outputsFit_of_kept h hl ha
    | accepted k reply t =>
      rw [he] at hl ha
      exact outputsFit_of_kept h hl ha
    | check r v => trivial
    | conflict => trivial

theorem outputsFit_kept : KeptByEffects outputsFit where
  queue _ _ h := h
  tick s h := outputsFit_of_kept h (.of_eq (by unfold tick; split <;> rfl)) (VehicleKept.tick s).alloc
  powerOn := outputsFit_powerOn
  losePower s h := outputsFit_of_kept h (.of_eq (by unfold losePower; split <;> rfl)) (VehicleKept.losePower s).alloc
  lines _ _ _ h _ := h
  records _ _ h _ := h
  body _ _ _ _ h _ _ := outputsFit_runBody h
  silence l s h := outputsFit_of_kept h (.silenceTimeout l s) (RangesKept.silenceTimeout l s).alloc
  commit s h := outputsFit_of_kept h (.of_eq (by simp)) (by simp)
  settling s h := outputsFit_of_kept h (.of_eq (by simp)) (by simp)
  motion m s h := outputsFit_of_kept h (.of_eq (by simp)) (by simp)
  servo _ _ h := h
  regulator w n c s h := outputsFit_of_kept h (.of_eq (by simp)) (by simp)
  drum dir s h := outputsFit_of_kept h (.of_eq (by simp)) (by simp)
  winch c s h := outputsFit_of_kept h (.of_eq (by simp)) (by simp)
  supply x shunt s h := (outputsFit_iff _).mpr
    ⟨by simpa using ((outputsFit_iff s).mp h).1, lightsGovernor_le _ _⟩
  lights s h := outputsFit_lightBoundary h

/-- Settles O57: the primitive effects that move the factors, the lights or the targets keep their ranges, so every step
does. -/
theorem everyStepKeepsTheRanges : Obligations.EveryStepKeepsTheRanges :=
  ⟨fun _ _ h ht => factorsFit_kept.step h ht, fun _ _ h ht => outputsFit_kept.step h ht,
    fun _ _ h ht => targetsFit_kept.step h ht⟩

end Sys2Proof.Machine.MotionGeometry
end

section
/-! The end of a tow link, the hold request, and the commands of the drive and of TOW ASSIST (R34, R39, R40, R42, R45, R46,
R55, R65, R66, R102 to R104). -/

namespace Sys2Proof.Machine.MotionGeometry

/-! ## The hold request (R42, R55, R65, R66) -/

/-- What each channel state does with the hold request (R55) and the latch release (R65). -/
theorem holdRequest_eq (release : Bool) (c : Channel) :
    let held : Channel := { c with
      state := .hold
      target := 0
      d := 0
      ePrev := 0
      creep := 0
      settle := 0
      stallTimer := 0
      rest := 0
      bridge := .brake }
    Channel.holdRequest release c =
      match c.state with
      | .run | .stall | .holdActive => held
      | .hold | .fault => { c with target := 0 }
      | .off => if release then { held with history := .none } else { c with target := 0 } := by
  cases h : c.state with
  | run | stall | holdActive | hold | fault => simp [Channel.holdRequest, Channel.toHold, h]
  | off => cases release <;> simp [Channel.holdRequest, Channel.toHold, h]

/-- A latch release after a hold request does what it does alone. -/
theorem holdRequest_true_false (c : Channel) :
    Channel.holdRequest true (Channel.holdRequest false c) = Channel.holdRequest true c := by
  cases h : c.state <;> simp [Channel.holdRequest, Channel.toHold, h]

/-- The STALL_OFFs of the hold request, one for each channel in STALL (R66). -/
def stallOffs (s : State) : List Notice :=
  ([Wheel.fl, .fr, .rl, .rr].filter fun w => (s.wheels.get w).state = .stall).map fun w => .wheel w .stallOff 3

theorem mem_stallOffs {n : Notice} {s : State} (h : n ∈ stallOffs s) : ∃ w, n = .wheel w .stallOff 3 := by
  obtain ⟨w, -, rfl⟩ := List.mem_map.mp h
  exact ⟨w, rfl⟩

/-- One wheel's part of the STALL_OFFs. -/
theorem holdRequestNotice_eq (w : Wheel) (s : State) : holdRequestNotice w (s.wheels.get w) =
    (([w].filter fun w => (s.wheels.get w).state = .stall).map fun w => Notice.wheel w .stallOff 3) := by
  unfold holdRequestNotice
  by_cases h : (s.wheels.get w).state = .stall <;> simp [h]

theorem handHold_eq (release : Bool) (s : State) :
    handHold release s = offerList (stallOffs s) { s with wheels := s.wheels.map (Channel.holdRequest release) } := by
  have hlist : stallOffs s = holdRequestNotice .fl (s.wheels.get .fl) ++ holdRequestNotice .fr (s.wheels.get .fr)
      ++ holdRequestNotice .rl (s.wheels.get .rl) ++ holdRequestNotice .rr (s.wheels.get .rr) := by
    simp only [holdRequestNotice_eq, ← List.map_append, ← List.filter_append]
    rfl
  rw [hlist]
  rfl

/-! ## Offers (R169) -/

/-- What a port holds of an event's notices: those offered that its mask selects, in the order offered. -/
theorem offerList_offered (ns : List Notice) (s : State) (l : Link) : ((offerList ns s).ports.get l).offered =
    (s.ports.get l).offered ++ ns.filter fun n => maskSelects (s.ports.get l).mask n := by
  induction ns generalizing s with
  | nil => simp [offerList]
  | cons n ns ih =>
    have hrest := ih (offer n s)
    obtain ⟨-, -, -, hmask, -⟩ := offer_portsKept n s l
    rw [hmask] at hrest
    refine hrest.trans ?_
    rw [offer_get, Port.offer, List.filter_cons]
    split <;> simp [Port.hand]

/-! ## The end of a tow link (R34, R104) -/

/-- A halt offers the STALL_OFFs of its hold request after what was offered before. -/
theorem haltDrive_offered (st : DriveState) (release : Bool) (s : State) (l : Link) :
    ((haltDrive st release s).ports.get l).offered =
      (s.ports.get l).offered ++ (stallOffs s).filter fun n => maskSelects (s.ports.get l).mask n := by
  rw [haltDrive, handHold_eq, offerList_offered]
  rfl

theorem offer_offered_of_selected {n : Notice} {s : State} {l : Link}
    (h : maskSelects (s.ports.get l).mask n = true) :
    ((offer n s).ports.get l).offered = (s.ports.get l).offered ++ [n] := by
  rw [offer_get, Port.offer, if_pos h]
  rfl

theorem endTow_offered {c : TowCause} {w : TowLink} {s : State} (h : s.winch.tow = some w) (l : Link)
    (hl : (s.ports.get l).mask.getLsbD 2 = true) : ∃ rest, ((endTow c s).ports.get l).offered =
      (s.ports.get l).offered ++ .winch .towEnd c.code :: rest ∧ ∀ n ∈ rest, ∃ i, n = .wheel i .stallOff 3 := by
  have hsel : maskSelects ((setWinch { s.winch with tow := none } s).ports.get l).mask (.winch .towEnd c.code) = true :=
    hl
  have hended := haltDrive_offered c.driveState false
    (offer (.winch .towEnd c.code) (setWinch { s.winch with tow := none } s)) l
  rw [offer_offered_of_selected hsel, List.append_assoc] at hended
  rw [endTow_of_some h]
  exact ⟨_, hended, fun n hn => mem_stallOffs (List.mem_of_mem_filter hn)⟩

/-- Settles O21: the tow link's end is an offer and a halt of the drive, and the hold request offers one STALL_OFF for each
channel in STALL. -/
theorem towLinkEndHaltsTheDrive : Obligations.TowLinkEndHaltsTheDrive := by
  refine ⟨fun c w s hw hs => ⟨endTow_winch c s, ?_, ?_, fun l hl => endTow_offered hw l hl, ?_⟩, holdRequest_eq,
    fun release s => handHold_eq release s⟩
  · rw [endTow_of_some hw]
    cases c <;> simp [Drive.zeroed, TowCause.driveState, hs, nextBrakeTimer]
  · intro i
    simp [endTow_of_some hw]
  · simp

/-! ## The drive after a halt (R34, R43) -/

/-- A drive halted into HOLDING starts the brake timer from DRIVING alone (R34, R43). -/
theorem zeroed_holding (d : Drive) : d.zeroed .holding = { d with
    t := 0
    b := 0
    bCmd := 0
    state := .holding
    brakeTimer := if d.state = .driving then some 0 else d.brakeTimer } := by
  simp [Drive.zeroed, nextBrakeTimer]

theorem zeroed_zeroed_holding (d : Drive) : (d.zeroed .holding).zeroed .holding = d.zeroed .holding := by
  simp [zeroed_holding]

theorem endTow_drive_of_some {c : TowCause} {w : TowLink} {s : State} (h : s.winch.tow = some w) :
    (endTow c s).drive = s.drive.zeroed c.driveState := by
  simp [endTow_of_some h]

theorem endTow_wheels_of_some {c : TowCause} {w : TowLink} {s : State} (h : s.winch.tow = some w) :
    (endTow c s).wheels = s.wheels.map (Channel.holdRequest false) := by
  simp [endTow_of_some h]

/-- The end of a tow link, where there may be none. -/
theorem endTow_eq_ite (c : TowCause) (s : State) :
    endTow c s = if s.winch.tow.isSome = true then endTow c s else s := by
  cases h : s.winch.tow with
  | none => simp [endTow_of_none h]
  | some w => simp

/-! ## The answer of an admitted command -/

/-- The state that an execution's answer leaves, the command having been taken in state `r` (R8, R12, R14, R17). -/
def given (n : CmdName) (l : Link) (tag unit : Byte) (r : State) (e : Exec) : State :=
  match e with
  | .good reply t => answered l tag .good reply (markCommander l n t)
  | .accepted kind reply t => answered l tag .accepted reply (markCommander l n (fillOp l n kind tag t))
  | .check x v => answered l tag .check [] (senseWritten l x unit tag v r)
  | .conflict => answered l tag .conflict [] r

/-- An admitted command leaves what its unit's execution gives. -/
theorem exec_given {i : Instr} {n : CmdName} {l : Link} {tag unit : Byte} {block : List Byte} {s : State}
    (hi : instrFrame i = some (l, ⟨tag, unit, n.row.code, block⟩)) (h : admitted n l tag unit block s = true) :
    exec i s = .next (given n l tag unit (taken l ⟨tag, unit, n.row.code, block⟩ s)
      (runBody n l ⟨tag, unit, n.row.code, block⟩ (taken l ⟨tag, unit, n.row.code, block⟩ s))) := by
  rw [exec_admitted hi h]
  cases runBody n l ⟨tag, unit, n.row.code, block⟩ (taken l ⟨tag, unit, n.row.code, block⟩ s) <;> rfl

/-- GOOD makes the sender of a mutating command its unit's last commander (R12). -/
theorem given_good_of_mutating {n : CmdName} {v : UnitId} (hc : n.row.cls = .mutating) (hv : n.row.target = some v)
    (l : Link) (tag unit : Byte) (r : State) (reply : List Byte) (t : State) :
    given n l tag unit r (.good reply t) = answered l tag .good reply (commanded v l t) := by
  simp only [given, markCommander, hc, hv]
  rfl

/-- GOOD of a read command changes no record (R2, R12). -/
theorem given_good_of_read {n : CmdName} (hc : n.row.cls = .read) (l : Link) (tag unit : Byte) (r : State)
    (reply : List Byte) (t : State) : given n l tag unit r (.good reply t) = answered l tag .good reply t := by
  simp only [given, markCommander, hc]

theorem given_check (n : CmdName) (l : Link) (tag unit : Byte) (r : State) (x : Reason) (v : Option Int) :
    given n l tag unit r (.check x v) = answered l tag .check [] (senseWritten l x unit tag v r) := rfl

theorem given_conflict (n : CmdName) (l : Link) (tag unit : Byte) (r : State) :
    given n l tag unit r .conflict = answered l tag .conflict [] r := rfl

/-! ## DRIVE SET and DRIVE HOLD (R39, R45, R46) -/

theorem takeThrottle_of_other {v : Int} {s : State} (h : s.drive.state ≠ .safeHold) :
    takeThrottle v s = { s with drive := { s.drive with t := v } } := by
  simp [takeThrottle, storeThrottle, h, setDrive]

theorem takeThrottle_of_safeHold {v : Int} {s : State} (h : s.drive.state = .safeHold) :
    takeThrottle v s = handHold false { s with drive := { s.drive with t := v, state := .holding } } := by
  simp [takeThrottle, storeThrottle, h, setDrive]

/-- DRIVE SET by its cases (R45). -/
theorem driveSetBody_good (l : Link) (c : Command) {s : State} (h : wheelsOff s = 0) :
    driveSetBody l c s = .good (bytes2 (clampInt (-1000) 1000 (s16At c.params 0)))
      (takeThrottle (clampInt (-1000) 1000 (s16At c.params 0)) s) := by
  simp [driveSetBody, h]

theorem driveSetBody_check (l : Link) (c : Command) {s : State} (h : wheelsOff s ≠ 0) :
    driveSetBody l c s = .check .wheelLatched (some (wheelsOff s)) := by
  simp [driveSetBody, h]

theorem driveSet_given {l : Link} {t u : Byte} {b : List Byte} {s : State} (h : admitted .driveSet l t u b s = true) :
    exec (.driveSet l t u b) s = .next (given .driveSet l t u (taken l ⟨t, u, 0x20, b⟩ s)
      (driveSetBody l ⟨t, u, 0x20, b⟩ (taken l ⟨t, u, 0x20, b⟩ s))) :=
  exec_given rfl h

theorem driveSet_answers (l : Link) (t u : Byte) (b : List Byte) (s : State) (h : admitted .driveSet l t u b s = true) :
    let r := taken l ⟨t, u, 0x20, b⟩ s
    let v := clampInt (-1000) 1000 (s16At b 0)
    let off := (s.wheels.list.filter fun c => c.state = .off).length
    (off = 0 → s.drive.state ≠ .safeHold → exec (.driveSet l t u b) s =
      .next (answered l t .good (bytes2 v) (commanded .drive l { r with drive := { s.drive with t := v } }))) ∧
    (off = 0 → s.drive.state = .safeHold → exec (.driveSet l t u b) s =
      .next (answered l t .good (bytes2 v) (commanded .drive l
        (handHold false { r with drive := { s.drive with t := v, state := .holding } })))) ∧
    (off ≠ 0 → exec (.driveSet l t u b) s =
      .next (answered l t .check [] (senseWritten l .wheelLatched u t (some off) r))) := by
  intro r v off
  have hoff : wheelsOff r = off := rfl
  refine ⟨fun h0 hst => ?_, fun h0 hst => ?_, fun h0 => ?_⟩
  · rw [driveSet_given h, driveSetBody_good l _ (hoff.trans h0), given_good_of_mutating (v := .drive) rfl rfl,
      takeThrottle_of_other (s := r) hst]
    rfl
  · rw [driveSet_given h, driveSetBody_good l _ (hoff.trans h0), given_good_of_mutating (v := .drive) rfl rfl,
      takeThrottle_of_safeHold (s := r) hst]
    rfl
  · rw [driveSet_given h, driveSetBody_check l _ (fun hx => h0 (hoff.symm.trans hx)), given_check]
    rfl

/-- The state that DRIVE HOLD leaves, before its answer (R46). -/
def heldDrive (s : State) : State := haltDrive .holding true (endTow .driveHold s)

theorem heldDrive_drive (s : State) : (heldDrive s).drive = s.drive.zeroed .holding := by
  unfold heldDrive
  rw [haltDrive_drive]
  cases hw : s.winch.tow with
  | none => rw [endTow_of_none hw]
  | some w => rw [endTow_drive_of_some hw, TowCause.driveState, zeroed_zeroed_holding]

theorem heldDrive_wheels (s : State) (w : Wheel) :
    (heldDrive s).wheels.get w = Channel.holdRequest true (s.wheels.get w) := by
  unfold heldDrive
  rw [haltDrive_wheels, PerWheel.get_map]
  cases hw : s.winch.tow with
  | none => rw [endTow_of_none hw]
  | some x => rw [endTow_wheels_of_some hw, PerWheel.get_map, holdRequest_true_false]

/-- DRIVE HOLD in its order: the tow link's end, the drive, the hold request (R46). -/
theorem heldDrive_eq (s : State) : heldDrive s = handHold true
    { (if s.winch.tow.isSome = true then endTow .driveHold s else s) with drive := (heldDrive s).drive } := by
  rw [← endTow_eq_ite]
  rw [heldDrive, haltDrive_drive, haltDrive]

theorem driveHold_answers (l : Link) (t u : Byte) (b : List Byte) (s : State) (h : admitted .driveHold l t u b s = true) :
    exec (.driveHold l t u b) s =
      .next (answered l t .good [] (commanded .drive l (heldDrive (taken l ⟨t, u, 0x21, b⟩ s)))) :=
  exec_given rfl h

theorem taken_portKept {l m : Link} {c : Command} {s : State} (hm : m ≠ l) :
    portKept (s.ports.get m) ((taken l c s).ports.get m) := by
  rw [taken_get_other c s hm]
  exact .refl _

theorem placeStatus_portKept {l m : Link} {tag : Byte} {a : Answer} :
    portKept (a.st.ports.get m) ((placeStatus l tag a).ports.get m) := by
  rw [placeStatus_get]
  split
  · next hm =>
    subst hm
    exact ⟨rfl, rfl, rfl, rfl, rfl, rfl, rfl⟩
  · exact .refl _

/-- The answer leaves the ports alone but for the status and what the arbiter sends. -/
theorem answered_portsKept (l : Link) (tag : Byte) (code : StatusCode) (reply : List Byte) (s : State) :
    portsKept s (answered l tag code reply s) :=
  (portsKept.trans (fun _ => placeStatus_portKept) (arbitrate_portsKept (placeStatus l tag ⟨code, reply, s⟩)))

/-- Settles O22: DRIVE SET by its three cases; DRIVE HOLD as the halt that `heldDrive` names. -/
theorem driveCommandsFollowTheirRules : Obligations.DriveCommandsFollowTheirRules := by
  refine ⟨driveSet_answers, fun l t u b s h => ⟨_, driveHold_answers l t u b s h, ?_⟩⟩
  have hkept (r : State) : portsKept r (answered l t .good [] (commanded .drive l (heldDrive r))) :=
    ((endTow_portsKept .driveHold r).trans (haltDrive_portsKept .holding true _)).trans
      (answered_portsKept l t .good [] (commanded .drive l (heldDrive r)))
  have hdrive (r : State) : (answered l t .good [] (commanded .drive l (heldDrive r))).drive = r.drive.zeroed .holding := by
    simp [answered, placeStatus, commanded, heldDrive_drive]
  refine ⟨?_, fun w => ?_, ?_, ?_, ?_, ?_, ?_, ?_, ?_, ?_, fun m hm => (taken_portKept hm).trans (hkept _ m), ?_⟩
  · rw [hdrive, zeroed_holding]
    rfl
  · have hwheels := heldDrive_wheels (taken l ⟨t, u, 0x21, b⟩ s) w
    simpa [answered, placeStatus, commanded] using hwheels
  iterate 7 · simp [answered, placeStatus, commanded, heldDrive]
  · simp [answered, placeStatus, commanded, heldDrive, clockKept]
  · rw [hdrive, ← heldDrive_drive]
    exact congrArg (fun x => answered l t .good [] (commanded .drive l x)) (heldDrive_eq _)

/-! ## TOW ASSIST (R40, R102, R103) -/

/-- The brake timer stops when a tow link takes the drive out of HOLDING (R40, R43). -/
theorem createTow_eq (l : Link) (s : State) : createTow l s = { s with
    winch := { s.winch with tow := some ⟨l, s.now⟩ }
    drive := { s.drive with
      state := .towing
      brakeTimer := if s.drive.state = .holding then none else s.drive.brakeTimer } } := by
  simp [createTow, nextBrakeTimer]

/-- The rows of TOW ASSIST on, by the first that applies (R102). -/
theorem towAssistOn_eq (l : Link) (s : State) : towAssistOnBody l s =
    if s.winch.tow.map TowLink.owner = some l then .good [] s
    else if s.disp.holders.winch ≠ some l then .conflict
    else if s.disp.holders.drive ≠ none ∧ s.disp.holders.drive ≠ some l then .conflict
    else if s.supply.stage = .cutoff then .check (.notReady .cutoff) none
    else .good [] (createTow l s) := by
  simp only [towAssistOnBody, ownsTow_iff, inCutoff, decide_eq_true_eq]

/-- Settles O27: the rows of TOW ASSIST on, by the first that applies, and TOW ASSIST off. -/
theorem towAssistFollowsItsTable : Obligations.TowAssistFollowsItsTable := by
  intro l t u extra s
  constructor
  · intro h r
    have hgiven : exec (.towAssistOn l t u extra) s = .next (given .towAssist l t u r (towAssistOnBody l r)) :=
      exec_given rfl h
    rw [hgiven, towAssistOn_eq]
    simp only [createTow_eq, apply_ite (given .towAssist l t u r), given_good_of_mutating (n := .towAssist) (v := .winch) rfl rfl,
      given_check, given_conflict]
    rfl
  · intro h r
    have hgiven : exec (.towAssistOff l t u extra) s = .next (given .towAssist l t u r (.good [] (endTow .off r))) :=
      exec_given rfl h
    rw [hgiven, given_good_of_mutating (n := .towAssist) (v := .winch) rfl rfl]
    exact congrArg (fun x => Host.Outcome.next (answered l t .good [] (commanded .winch l x))) (endTow_eq_ite .off r)

end Sys2Proof.Machine.MotionGeometry
end

section
/-! The servo frames, the interpolated tangent and the read commands (R29, R47, R71, R72, R77, R105, R120, R158, R176, R186). -/

namespace Sys2Proof.Machine.MotionGeometry

/-! ## The servo frame and the tangent (R29, R71, R72) -/

/-- The endpoint clamp as its pulse and its flag (R72). -/
theorem endpointClamp_eq (p : Profile) (a : Axle) (w : Int) : endpointClamp p a w =
    (if w < axleMin p a then axleMin p a else if axleMax p a < w then axleMax p a else w,
      if w < axleMin p a then .low else if axleMax p a < w then .high else .none) := by
  unfold endpointClamp
  split
  · rfl
  · split <;> rfl

theorem tanMag_whole (k : Nat) : tanMag (10 * k) = tanTable.getD k 0 := by
  simp [tanMag]

theorem tanMag_between (k : Nat) {j : Nat} (h0 : 0 < j) (h10 : j < 10) : tanMag (10 * k + j) =
    tanTable.getD k 0 + Int.tdiv ((tanTable.getD (k + 1) 0 - tanTable.getD k 0) * j) 10 := by
  have hdiv : (10 * k + j) / 10 = k := by omega
  have hmod : (10 * k + j) % 10 = j := by omega
  have hj : j ≠ 0 := by omega
  simp only [tanMag, hdiv, hmod, hj, if_false, truncDiv]

theorem tanQ_natCast (n : Nat) : tanQ (n : Int) = tanMag n := by
  simp [tanQ]

theorem tanQ_neg (a : Int) : tanQ (-a) = -tanQ a := by
  unfold tanQ
  rw [Int.natAbs_neg]
  rcases lt_trichotomy a 0 with h | rfl | h
  · rw [if_neg (by omega), if_pos h, neg_neg]
  · rfl
  · rw [if_pos (by omega), if_neg (by omega)]

/-- Settles O38: the servo frame clamps the pulse of its axle, and the tangent is read at and between whole degrees. -/
theorem servoFrameSetsThePulse : Obligations.ServoFrameSetsThePulse := by
  refine ⟨fun a s hp => ?_, rfl, fun k _ => ?_, fun k j _ h0 h10 => ?_, tanQ_neg⟩
  · have hevent : exec (.servoFrame a) s = .next (arbitrate (setSteer (servoFrame s.chassis.profile a s.steer) s)) :=
      event_powered (f := fun s => setSteer (servoFrame s.chassis.profile a s.steer) s) hp
    rw [hevent, servoFrame, endpointClamp_eq]
    rfl
  · exact (tanQ_natCast (10 * k)).trans (tanMag_whole k)
  · exact (tanQ_natCast (10 * k + j)).trans (tanMag_between k h0 h10)

/-! ## The lengths of the reports (R166, R176, R186) -/

@[simp] theorem bytes2_length (x : Int) : (bytes2 x).length = 2 := rfl

@[simp] theorem bytes4_length (x : Int) : (bytes4 x).length = 4 := rfl

@[simp] theorem field4_length (x : Int) : (field4 x).length = 4 := rfl

theorem field4_of_fits {x : Int} (hlow : -2147483648 ≤ x) (hhigh : x ≤ 2147483647) : field4 x = bytes4 x := by
  simp [field4, fits32, hlow, hhigh]

theorem sourceBytes_length (x : Source) : x.bytes.length = 2 := by
  cases x <;> rfl

theorem transitionBytes_length (x : Transition) : x.bytes.length = 3 := by
  cases x <;> rfl

theorem stagedBytes_length (g : Option Staged) : (stagedBytes g).length = 7 := by
  cases g <;> simp [stagedBytes, Staged.bytes, sourceBytes_length, transitionBytes_length]

theorem fadeBytes_length (f : Option Fade) : (fadeBytes f).length = 5 := by
  cases f <;> rfl

theorem towFields_length (s : State) : (towFields s).length = 4 := by
  unfold towFields
  split <;> simp

theorem lightsReport_length (s : State) : (lightsReport s).length = 29 := by
  simp [lightsReport, sourceBytes_length, stagedBytes_length, fadeBytes_length]

theorem winchReport_length (s : State) : (winchReport s).length = 32 := by
  simp [winchReport, towFields_length]

/-! ## The reports, field by field -/

/-- The identity of the part, its two numbers written out (R186). -/
theorem identity_eq (s : State) : identity s = [0x7D, 0x0B, 0x48, 0x00, 1, byteOf s.chassis.status.code,
    flagByte s.chassis.unsaved, flagByte s.disp.chassisOp.isSome, byteOf s.chassis.imageState.code] := by
  have hnumber : bytes2 0x0B7D = [0x7D, 0x0B] := by decide
  have hversion : bytes2 0x0048 = [0x48, 0x00] := by decide
  rw [identity, hnumber, hversion]
  rfl

/-- The fields of REPORT DRIVE, wheel by wheel (R47). -/
theorem driveReport_eq (s : State) : driveReport s =
    [byteOf s.drive.state.code] ++ bytes2 s.drive.t ++ bytes2 s.drive.bCmd ++ bytes2 s.drive.b
      ++ bytes2 s.drive.targets.fl ++ bytes2 s.drive.targets.fr ++ bytes2 s.drive.targets.rl ++ bytes2 s.drive.targets.rr
      ++ bytes2 s.wheels.fl.m ++ bytes2 s.wheels.fr.m ++ bytes2 s.wheels.rl.m ++ bytes2 s.wheels.rr.m
      ++ [byteOf s.drive.wheelStates.fl.code, byteOf s.drive.wheelStates.fr.code, byteOf s.drive.wheelStates.rl.code,
          byteOf s.drive.wheelStates.rr.code]
      ++ bytes2 s.drive.gUsed ++ bytes2 s.drive.fLeft ++ bytes2 s.drive.fRight ++ bytes4 s.drive.kappa
      ++ [flagByte s.drive.braking, flagByte s.drive.reverse] := by
  simp [driveReport, PerWheel.list]

theorem byteOf_winchSlotCode (d : DispatcherState) : byteOf (winchSlotCode d) =
    if d.winchOp = none then 0 else if d.winchOp.map LongOp.kind = some .reference then 2 else 1 := by
  unfold winchSlotCode
  cases d.winchOp with
  | none => rfl
  | some op =>
    by_cases h : op.kind = .reference <;> simp [h, byteOf]

theorem byteOf_lineDirCode (d : Option LineDir) :
    byteOf (lineDirCode (d.getD .inward)) = if d = some .outward then 1 else 0 := by
  rcases d with _ | _ | _ <;> rfl

theorem towFields_eq (s : State) : towFields s = (match s.winch.tow with
    | some x => [1, byteOf (linkIndex x.owner)] ++ bytes2 (min (s.now - x.created) 65535 : Nat)
    | none => [0, 0, 0, 0]) := by
  unfold towFields
  cases s.winch.tow <;> rfl

/-- The fields of REPORT WINCH, its codes written out (R105). -/
theorem winchReport_eq (s : State) : winchReport s =
    [byteOf s.winch.state.code, flagByte s.winch.referenced]
      ++ field4 (Int.tdiv (s.winch.count * 100) (s.chassis.profile.get .cp100)) ++ bytes4 s.winch.count
      ++ bytes4 s.winch.speed ++ bytes2 s.winch.current ++ bytes2 s.winch.runSpeed ++ bytes2 s.winch.duty
      ++ [flagByte s.winch.moveTarget.isSome] ++ bytes2 (s.winch.moveTarget.getD 0)
      ++ [if s.winch.moveDir = some .outward then 1 else 0,
          if s.disp.winchOp = none then 0 else if s.disp.winchOp.map LongOp.kind = some .reference then 2 else 1,
          byteOf s.winch.note.code]
      ++ (match s.winch.tow with
        | some x => [1, byteOf (linkIndex x.owner)] ++ bytes2 (min (s.now - x.created) 65535 : Nat)
        | none => [0, 0, 0, 0])
      ++ bytes2 s.winch.gUsed := by
  simp only [winchReport, byteOf_winchSlotCode, byteOf_lineDirCode, towFields_eq]
  rfl

theorem byteOf_lightsSlotCode (d : DispatcherState) : byteOf (lightsSlotCode d) =
    if d.lightsOp = none then 0 else if d.lightsOp.map LongOp.kind = some .fill then 2 else 1 := by
  unfold lightsSlotCode
  cases d.lightsOp with
  | none => rfl
  | some op =>
    by_cases h : op.kind = .fill <;> simp [h, byteOf]

theorem byteOf_signalModeCode (m : SignalMode) : byteOf m.code = if m = .auto then 0 else 1 := by
  cases m <;> rfl

theorem fadeBytes_eq (f : Option Fade) : fadeBytes f = (match f with
    | some f => [1, if f.kind = .fade then 1 else 2, byteOf f.k, byteOf f.n, flagByte f.ended]
    | none => [0, 0, 0, 0, 0]) := by
  rcases f with _ | ⟨_ | _⟩ <;> rfl

/-- The fields of view STATE, its codes written out (R158). -/
theorem lightsReport_eq (s : State) : lightsReport s =
    s.lights.base.live.source.bytes ++ [byteOf s.lights.base.live.play.step, byteOf s.lights.base.live.play.countdown]
      ++ (match s.lights.base.staged with | some g => 1 :: g.bytes | none => [0, 0, 0, 0, 0, 0, 0])
      ++ (match s.lights.base.fade with
        | some f => [1, if f.kind = .fade then 1 else 2, byteOf f.k, byteOf f.n, flagByte f.ended]
        | none => [0, 0, 0, 0, 0])
      ++ [if s.disp.lightsOp = none then 0 else if s.disp.lightsOp.map LongOp.kind = some .fill then 2 else 1,
          if s.lights.mode = .auto then 0 else 1, flagByte s.lights.shown.indicator, flagByte s.lights.shown.brake,
          flagByte s.lights.shown.reverse, flagByte s.lights.mirrored, byteOf (s.lights.overlay.pattern.getD 255),
          flagByte s.lights.overlay.mirrored, byteOf (match s.lights.alert.selected with
            | none => 0
            | some .failsafe => 1
            | some .cutoff => 2
            | some .limit => 3
            | some .winchLoad => 4
            | some .conserve => 5)]
      ++ bytes2 s.lights.iLest ++ bytes2 s.lights.gUsed := by
  have halert (a : Option Alert) : alertCode a = (match a with
      | none => 0
      | some .failsafe => 1
      | some .cutoff => 2
      | some .limit => 3
      | some .winchLoad => 4
      | some .conserve => 5) := by
    rcases a with _ | _ | _ | _ | _ | _ <;> rfl
  simp only [lightsReport, byteOf_lightsSlotCode, byteOf_signalModeCode, fadeBytes_eq, halert]
  rfl

/-- Every reply has the length that R166's table, R176 or R186 gives it. -/
theorem report_lengths (l : Link) (f : Field) (n : Nat) (s : State) :
    (senseReport l s).length = 19 ∧ (driveReport s).length = 39 ∧ (steerReport s).length = 26 ∧
      (winchReport s).length = 32 ∧ (supplyReport s).length = 47 ∧ (lightsReport s).length = 29 ∧
      (s.lights.composed.toList.map byteOf).length = 24 ∧ (s.lights.outputs.toList.map byteOf).length = 24 ∧
      (s.lights.frame n).toList.length = 24 ∧ (s.lights.record n).bytes.length = 6 ∧
      (profileReadReply f s.chassis.profile).length = 17 ∧ (identity s).length = 9 := by
  refine ⟨?_, ?_, ?_, winchReport_length s, ?_, lightsReport_length s, by simp, by simp, by simp, rfl, ?_, ?_⟩
  · simp [senseReport, senseValue]
  · simp [driveReport_eq]
  · simp [steerReport]
  · delta supplyReport
    simp
  · simp [profileReadReply]
  · simp [identity]

/-! ## The read commands -/

/-- A read command that its unit answers GOOD changes nothing but the line (R2, R8). -/
theorem exec_of_read {i : Instr} {n : CmdName} {l : Link} {tag unit : Byte} {block reply : List Byte} {s : State}
    (hi : instrFrame i = some (l, ⟨tag, unit, n.row.code, block⟩)) (hc : n.row.cls = .read)
    (h : admitted n l tag unit block s = true)
    (hr : runBody n l ⟨tag, unit, n.row.code, block⟩ (taken l ⟨tag, unit, n.row.code, block⟩ s) =
      .good reply (taken l ⟨tag, unit, n.row.code, block⟩ s)) :
    exec i s = .next (answered l tag .good reply (taken l ⟨tag, unit, n.row.code, block⟩ s)) := by
  rw [exec_given hi h, hr, given_good_of_read hc]

/-- REPORT LIGHTS by its view: the three views without an index, and the two that may refuse theirs (R158). -/
theorem reportLights_given (l : Link) (t u : Byte) (b : List Byte) (r : State) :
    given .reportLights l t u r (reportLightsBody l ⟨t, u, 0x55, b⟩ r) =
      (match (byteAt b 0).toNat with
        | 0 => answered l t .good (lightsReport r) r
        | 1 => answered l t .good (r.lights.composed.toList.map byteOf) r
        | 2 => answered l t .good (r.lights.outputs.toList.map byteOf) r
        | 3 => if (byteAt b 1).toNat ≤ 15 then answered l t .good (r.lights.record (byteAt b 1).toNat).bytes r
            else answered l t .check [] (senseWritten l (.illegal .patternUndefined) u t none r)
        | _ => if (byteAt b 1).toNat ≤ 63 then answered l t .good (r.lights.frame (byteAt b 1).toNat).toList r
            else answered l t .check [] (senseWritten l (.illegal .badFrameIndex) u t none r)) := by
  have hgood (reply : List Byte) : given .reportLights l t u r (.good reply r) = answered l t .good reply r :=
    given_good_of_read rfl l t u r reply r
  unfold reportLightsBody
  dsimp only
  generalize (byteAt b 0).toNat = view
  rcases view with _ | _ | _ | _ | view
  · exact hgood _
  · exact hgood _
  · exact hgood _
  · by_cases hi : (byteAt b 1).toNat ≤ 15
    · rw [if_neg (Nat.not_lt.mpr hi), if_pos hi]
      exact hgood _
    · rw [if_pos (Nat.lt_of_not_le hi), if_neg hi]
      rfl
  · by_cases hi : (byteAt b 1).toNat ≤ 63
    · rw [if_neg (Nat.not_lt.mpr hi), if_pos hi]
      exact hgood _
    · rw [if_pos (Nat.lt_of_not_le hi), if_neg hi]
      rfl

/-- PROFILE READ: the field whose number was sent, or FIELD_UNKNOWN (R176). -/
theorem profileRead_given (l : Link) (t u : Byte) (b : List Byte) (r : State) :
    given .profileRead l t u r (profileReadBody l ⟨t, u, 0x03, b⟩ r) =
      (match Field.ofNumber (byteAt b 0).toNat with
        | some f => answered l t .good (byteAt b 0 :: (bytes4 (r.chassis.profile.get f) ++ bytes4 f.row.low
            ++ bytes4 f.row.high ++ bytes4 f.row.default)) r
        | none => answered l t .check [] (senseWritten l (.illegal .fieldUnknown) u t none r)) := by
  unfold profileReadBody
  dsimp only
  cases hf : Field.ofNumber (byteAt b 0).toNat with
  | none => rfl
  | some f =>
    have hnumber : byteOf f.row.number = byteAt b 0 := by
      rw [Field.number_of_ofNumber hf, byteOf, BitVec.ofNat_toNat, BitVec.setWidth_eq]
    dsimp only
    rw [given_good_of_read rfl, profileReadReply, hnumber]

/-- Settles O24: each report is its fields in order, and the answer of a read command leaves the part as it was taken. -/
theorem readCommandsReportAndChangeNothing : Obligations.ReadCommandsReportAndChangeNothing := by
  refine ⟨fun l t u b s => ⟨fun h => ?_, fun h => ?_, fun h => ?_, fun h => ?_, fun h => ?_, fun h => ?_, fun h => ?_⟩,
    report_lengths, fun v => ⟨field4_length v, field4_of_fits, rfl, rfl⟩⟩
  · rw [exec_of_read (reply := identity (taken l ⟨t, u, 0x01, b⟩ s)) rfl rfl h rfl, identity_eq]
    rfl
  · intro d x c y
    rw [exec_of_read (reply := driveReport (taken l ⟨t, u, 0x22, b⟩ s)) rfl rfl h rfl, driveReport_eq]
    rfl
  · intro x p
    rw [exec_of_read (reply := steerReport (taken l ⟨t, u, 0x33, b⟩ s)) rfl rfl h rfl]
    rfl
  · intro w
    rw [exec_of_read (reply := winchReport (taken l ⟨t, u, 0x46, b⟩ s)) rfl rfl h rfl, winchReport_eq]
    rfl
  · intro x a
    rw [exec_of_read (reply := supplyReport (taken l ⟨t, u, 0x60, b⟩ s)) rfl rfl h rfl]
    rfl
  · intro r index x
    have hgiven : exec (.reportLights l t u b) s =
        .next (given .reportLights l t u r (reportLightsBody l ⟨t, u, 0x55, b⟩ r)) := exec_given rfl h
    rw [hgiven, reportLights_given, lightsReport_eq]
    rfl
  · intro r
    have hgiven : exec (.profileRead l t u b) s =
        .next (given .profileRead l t u r (profileReadBody l ⟨t, u, 0x03, b⟩ r)) := exec_given rfl h
    rw [hgiven, profileRead_given]
    rfl

end Sys2Proof.Machine.MotionGeometry
end

section
/-! The motion period (R25 to R33, R35 to R38, R43, R44, R54, R69, R73). -/

namespace Sys2Proof.Machine.MotionGeometry

/-! ## The computations of the period -/

/-- The winch hauls in RUN_IN and REFERENCE, and in an inward MOVE (R35, R83). -/
theorem hauling_iff (w : Winch) : w.hauling = true ↔
    (w.state = .runIn ∨ w.state = .reference ∨ w.state = .move ∧ w.moveDir = some .inward) := by
  cases h : w.state <;> simp [Winch.hauling, h]

/-- The base speed command, with and without a tow link (R26, R32, R35). -/
theorem baseCommand_eq (p : Profile) (w : Winch) (t : Int) : baseCommand p w t =
    if w.tow.isSome = true then
      (if w.state = .runIn ∨ w.state = .reference ∨ w.state = .move ∧ w.moveDir = some .inward then
        clampInt (-(p.get .fullSpeed)) (p.get .fullSpeed)
          (roundDiv (w.speed * p.get .wheelCp100 * p.get .towRatio) (p.get .cp100 * 1000))
        else 0)
    else Int.tdiv ((if mag t ≤ p.get .deadband then 0 else t) * p.get .fullSpeed) 1000 := by
  unfold baseCommand
  cases w.tow with
  | none => rfl
  | some x => simp only [towSpeed, hauling_iff, Option.isSome_some, if_true]

/-- The wheels of a side share a target (R36). -/
theorem motionDrive_targets (m : Nat) (s : State) : (motionDrive m s).targets =
    ⟨wheelTarget (motionDrive m s).b (motionDrive m s).fLeft s.alloc.gD,
      wheelTarget (motionDrive m s).b (motionDrive m s).fRight s.alloc.gD,
      wheelTarget (motionDrive m s).b (motionDrive m s).fLeft s.alloc.gD,
      wheelTarget (motionDrive m s).b (motionDrive m s).fRight s.alloc.gD⟩ := by
  simp only [motionDrive, motionCompute]

theorem nextDriveState_eq (st : DriveState) (b cmd : Int) : nextDriveState st b cmd = (match st with
    | .holding | .driving => if b = 0 ∧ cmd = 0 then .holding else .driving
    | .towing => .towing
    | .safeHold => .safeHold) := by
  cases st <;> rfl

/-! ## What the period does to the channels (R42, R54, R55) -/

theorem handTargets_get (ts : PerWheel Int) (ws : PerWheel Channel) (w : Wheel) :
    (handTargets ts ws).get w = { ws.get w with target := ts.get w } := by
  cases w <;> rfl

/-- The hold request makes no use of the stored target. -/
theorem holdRequest_target_irrelevant (release : Bool) (c : Channel) (x : Int) :
    Channel.holdRequest release { c with target := x } = Channel.holdRequest release c := by
  cases h : c.state <;> simp [Channel.holdRequest, Channel.toHold, h]

theorem motionPeriod_steer (m : Nat) (s : State) :
    (motionPeriod m s).steer = sampleServo m (steerStep s.chassis.profile s.steer) := by
  unfold motionPeriod
  dsimp only
  split
  · rw [handHold_steer]
  · rfl

/-- The targets reach the channels; where DRIVING becomes HOLDING the hold request follows them (R36, R42). -/
theorem motionPeriod_wheels (m : Nat) (s : State) (w : Wheel) : (motionPeriod m s).wheels.get w =
    if s.drive.state = .driving ∧ (motionDrive m s).state = .holding then Channel.holdRequest false (s.wheels.get w)
    else { s.wheels.get w with target := (motionDrive m s).targets.get w } := by
  unfold motionPeriod motionDrive
  dsimp only
  split
  · rw [handHold_wheels, PerWheel.get_map, handTargets_get, holdRequest_target_irrelevant]
  · rw [handTargets_get]

/-- Settles O37: the drive of the period is what `motionCompute` gives it, its own channels take the targets or the hold
request, and nothing else of the part moves. -/
theorem motionPeriodComputesTheTargets : Obligations.MotionPeriodComputesTheTargets := by
  intro m s hp p angle dem slewed df dr kappa off fl fr hauling tow cmd b target
  have hcmd : (motionDrive m s).bCmd = cmd := baseCommand_eq p s.winch s.drive.t
  have hb : (motionDrive m s).b = b := congrArg (fun x => ramp (p.get .rampStep) x s.drive.b) hcmd
  have hstate : (motionDrive m s).state = nextDriveState s.drive.state b cmd := by
    rw [← hb, ← hcmd]
    rfl
  have htargets : (motionDrive m s).targets = ⟨target fl, target fr, target fl, target fr⟩ := by
    rw [motionDrive_targets, hb]
    rfl
  have hdrive : (arbitrate (motionPeriod m s)).drive =
      { motionDrive m s with wheelStates := (motionPeriod m s).wheels.map fun c => c.state } := by
    rw [arbitrate_drive, motionPeriod_drive]
  refine ⟨arbitrate (motionPeriod m s), event_powered hp, ?_, ?_, ?_, ?_, ?_, ?_, ?_, ?_, ?_, ?_⟩
  · rw [arbitrate_steer, motionPeriod_steer]
    rfl
  · rw [hdrive]
    exact ⟨rfl, rfl, rfl, hcmd, hb, hb, rfl, rfl, htargets⟩
  · rw [hdrive]
    exact hstate.trans (nextDriveState_eq _ b cmd)
  · rw [hdrive, ← hb]
    rfl
  · rw [hdrive, ← hb]
    rfl
  · rw [hdrive]
    rfl
  · intro w
    rw [hdrive, arbitrate_wheels, PerWheel.get_map]
  · rw [hdrive]
    intro hwas hnow
    refine ⟨if_pos ⟨hwas, hnow⟩, fun w => ?_⟩
    rw [arbitrate_wheels, motionPeriod_wheels, if_pos ⟨hwas, hnow⟩]
  · rw [hdrive]
    intro hnot w
    rw [arbitrate_wheels, motionPeriod_wheels, if_neg hnot]
  · refine ⟨by simp, by simp, by simp, by simp, by simp, by simp, by simp [clockKept], ?_⟩
    exact (motionPeriod_portsKept m s).trans (arbitrate_portsKept _)

end Sys2Proof.Machine.MotionGeometry
end

section
/-! The stage decision and the whole supply period (R41, R98, R104, R112 to R118). -/

namespace Sys2Proof.Machine.MotionGeometry

/-! ## The decision by cases -/

/-- The mildest X of a run whose latest X is `now` (R112). -/
def mildestOf (old : Supply) (now : Stage) : Stage :=
  if old.down = 0 then now else match old.candidate with
    | some c => if now.code < c.code then now else c
    | none => now

theorem nextCandidate_eq (x : Supply) : nextCandidate x = mildestOf x x.x := by
  unfold nextCandidate mildestOf Stage.milder Stage.worse
  split
  · rfl
  · cases x.candidate with
    | none => rfl
    | some c => simp only [decide_eq_true_eq]

/-- The rise condition, with the thresholds of CONSERVE and LIMIT (R113). -/
theorem riseHolds_eq (p : Profile) (stage : Stage) (comp : Nat) : riseHolds p stage comp =
    decide (stage = .conserve ∧ p.nat .thresholdConserve + p.nat .hysteresis ≤ comp ∨
      stage = .limit ∧ p.nat .thresholdLimit + p.nat .hysteresis ≤ comp) := by
  cases stage <;> simp [riseHolds, riseThreshold]

/-- One step milder, from the stages that can rise (R113). -/
theorem stepUp_of_rises {p : Profile} {stage : Stage} {comp : Nat} (h : riseHolds p stage comp = true) :
    stage.stepUp = if stage = .conserve then .normal else .conserve := by
  cases stage with
  | conserve | limit => rfl
  | normal | cutoff => cases h

/-- The supply monitor after the counters of a period that changes no stage (R112, R113). -/
def countedSupply (p : Profile) (x : Supply) : Supply :=
  let worse := x.x.worse x.stage
  { x with
    down := if worse = true then x.down + 10 else 0
    up := if riseHolds p x.stage x.vComp = true then x.up + 10 else 0
    candidate := if worse = true then some (nextCandidate x) else none }

/-- A change clears the counters whatever they were (R117). -/
theorem changeStage_counted (new : Stage) (cause : StageCause) (q : State) (down : Nat) (c : Option Stage) :
    changeStage new cause (setSupply { q.supply with down := down, candidate := c } q) = changeStage new cause q := rfl

theorem downStep_due {q : State} (hw : q.supply.x.worse q.supply.stage = true)
    (hd : q.chassis.profile.nat .dwellDown ≤ q.supply.down + 10) :
    downStep q = (changeStage (nextCandidate q.supply) .down q, [.dwellDown]) := by
  simp only [downStep, hw, hd, if_true]

theorem downStep_early {q : State}
    (h : ¬(q.supply.x.worse q.supply.stage = true ∧ q.chassis.profile.nat .dwellDown ≤ q.supply.down + 10)) :
    downStep q = (setSupply { q.supply with
      down := if q.supply.x.worse q.supply.stage = true then q.supply.down + 10 else 0
      candidate := if q.supply.x.worse q.supply.stage = true then some (nextCandidate q.supply) else none } q, []) := by
  by_cases hw : q.supply.x.worse q.supply.stage = true
  · have hd : ¬q.chassis.profile.nat .dwellDown ≤ q.supply.down + 10 := fun hd => h ⟨hw, hd⟩
    simp only [downStep, hw, hd, if_true, if_false]
  · simp only [downStep, hw, if_false, Bool.false_eq_true]

/-- The whole stage decision after the first (R112 to R114), with what it brings about. -/
theorem stageDecision_later {q : State} (hp : q.supply.initialPending = false) : stageDecision q =
    if q.supply.stage = .cutoff then (setSupply { q.supply with down := 0, up := 0, candidate := none } q, [])
    else if q.supply.x.worse q.supply.stage = true ∧ q.chassis.profile.nat .dwellDown ≤ q.supply.down + 10 then
      (changeStage (nextCandidate q.supply) .down q, [.dwellDown])
    else if riseHolds q.chassis.profile q.supply.stage q.supply.vComp = true ∧
        q.chassis.profile.nat .dwellUp ≤ q.supply.up + 10 then
      (changeStage q.supply.stage.stepUp .up q, [.dwellUp])
    else (setSupply (countedSupply q.chassis.profile q.supply) q, []) := by
  have later (hc : q.supply.stage ≠ .cutoff) : stageDecision q =
      if SupplyHappening.dwellDown ∈ (downStep q).2 then downStep q
      else ((upStep (downStep q).1).1, (downStep q).2 ++ (upStep (downStep q).1).2) := by
    cases h : q.supply.stage with
    | cutoff => exact absurd h hc
    | normal | conserve | limit => simp [stageDecision, hp, h]
  by_cases hc : q.supply.stage = .cutoff
  · simp [stageDecision, hp, hc]
  · rw [later hc, if_neg hc]
    by_cases hd : q.supply.x.worse q.supply.stage = true ∧ q.chassis.profile.nat .dwellDown ≤ q.supply.down + 10
    · rw [if_pos hd, downStep_due hd.1 hd.2, if_pos (by simp)]
    · rw [if_neg hd, downStep_early hd, if_neg (by simp)]
      by_cases hr : riseHolds q.chassis.profile q.supply.stage q.supply.vComp = true
      · by_cases hu : q.chassis.profile.nat .dwellUp ≤ q.supply.up + 10
        · simp only [upStep, setSupply_supply, setSupply_chassis, hr, hu, if_true, and_self, List.nil_append]
          rw [changeStage_counted]
        · simp only [upStep, setSupply_supply, setSupply_chassis, hr, hu, if_true, if_false, and_false,
            countedSupply, List.nil_append]
          rfl
      · simp only [upStep, setSupply_supply, setSupply_chassis, hr, if_false, false_and, countedSupply,
          List.nil_append, Bool.false_eq_true]
        rfl

/-! ## The state in which the stage is decided -/

/-- The part with the period's measurements and classification, the first classification being over (R107 to R111). -/
def readSupply (x : Taps) (shunt : Int) (s : State) : State :=
  { s with supply := { supplyMeasure s.chassis.profile x shunt s.supply with
      x := classify s.chassis.profile (supplyMeasure s.chassis.profile x shunt s.supply).vComp
      initialPending := false } }

/-- The stage decision of a supply period, with what it brings about. -/
def supplyDecision (x : Taps) (shunt : Int) (s : State) : State × List SupplyHappening :=
  stageDecision (setSupply { supplyMeasure s.chassis.profile x shunt s.supply with
    x := classify s.chassis.profile (supplyMeasure s.chassis.profile x shunt s.supply).vComp } s)

theorem supplyPeriod_eq (x : Taps) (shunt : Int) (s : State) : supplyPeriod x shunt s =
    (allocationStep (supplyDecision x shunt s).1, (supplyDecision x shunt s).2) := rfl

/-- The first decision takes X without a dwell (R116). -/
theorem supplyDecision_first {x : Taps} {shunt : Int} {s : State} (hp : s.supply.initialPending = true) :
    (supplyDecision x shunt s).1 =
      if (readSupply x shunt s).supply.x = .normal then
        setSupply { (readSupply x shunt s).supply with stage := .normal } (readSupply x shunt s)
      else changeStage (readSupply x shunt s).supply.x .initial (readSupply x shunt s) := by
  have hm : (supplyMeasure s.chassis.profile x shunt s.supply).initialPending = true := hp
  unfold supplyDecision stageDecision
  rw [if_pos (by simpa using hm)]
  rfl

theorem supplyDecision_read {x : Taps} {shunt : Int} {s : State} (hp : s.supply.initialPending = false) :
    supplyDecision x shunt s = stageDecision (readSupply x shunt s) := by
  have hm : (supplyMeasure s.chassis.profile x shunt s.supply).initialPending = false := hp
  unfold supplyDecision readSupply setSupply
  rw [← hm]

/-- Every later decision, by the stage, the down counter and the up counter in this order (R112 to R114). -/
theorem supplyDecision_later {x : Taps} {shunt : Int} {s q : State} (hp : s.supply.initialPending = false)
    (hq : readSupply x shunt s = q) : supplyDecision x shunt s =
      if s.supply.stage = .cutoff then (setSupply { q.supply with down := 0, up := 0, candidate := none } q, [])
      else if s.supply.stage.code < q.supply.x.code ∧ s.chassis.profile.nat .dwellDown ≤ s.supply.down + 10 then
        (changeStage (mildestOf s.supply q.supply.x) .down q, [.dwellDown])
      else if riseHolds s.chassis.profile s.supply.stage q.supply.vComp = true ∧
          s.chassis.profile.nat .dwellUp ≤ s.supply.up + 10 then
        (changeStage (if s.supply.stage = .conserve then .normal else .conserve) .up q, [.dwellUp])
      else (setSupply (countedSupply s.chassis.profile q.supply) q, []) := by
  have hstage : q.supply.stage = s.supply.stage := by rw [← hq]; rfl
  have hdown : q.supply.down = s.supply.down := by rw [← hq]; rfl
  have hup : q.supply.up = s.supply.up := by rw [← hq]; rfl
  have hprofile : q.chassis.profile = s.chassis.profile := by rw [← hq]; rfl
  have hmild : mildestOf q.supply q.supply.x = mildestOf s.supply q.supply.x := by rw [← hq]; rfl
  rw [supplyDecision_read hp, hq, stageDecision_later (by rw [← hq]; rfl), nextCandidate_eq, hmild]
  simp only [hstage, hdown, hup, hprofile, Stage.worse, decide_eq_true_eq]
  by_cases hr : riseHolds s.chassis.profile s.supply.stage q.supply.vComp = true
  · rw [stepUp_of_rises hr]
  · simp only [hr, false_and, if_false, Bool.false_eq_true]

/-! ## An entry to CUTOFF (R41, R98, R104) -/

theorem winchCutoffEntry_eq (q : State) : winchCutoffEntry q =
    if q.winch.state = .runIn ∨ q.winch.state = .runOut then { q with winch := q.winch.toIdle }
    else if q.winch.state = .move ∨ q.winch.state = .reference then
      endOp .winch .cutoff { q with winch := q.winch.toIdle }
    else q := by
  cases h : q.winch.state <;> simp [winchCutoffEntry, h, setWinch, endWinchOp]

theorem winchCutoffEntry_state (q : State) : (winchCutoffEntry q).winch.state =
    if q.winch.state = .loadHold ∨ q.winch.state = .free then q.winch.state else .idle := by
  cases h : q.winch.state <;> simp [winchCutoffEntry, h, Winch.toIdle]

/-- The drive after an entry to CUTOFF: a SAFE_HOLD without a tow link stays, every other state becomes HOLDING, with the
brake timer started from DRIVING (R34, R41, R43). -/
theorem cutoffEntry_drive (q : State) : (cutoffEntry q).drive = { q.drive with
    t := 0
    b := 0
    bCmd := 0
    state := if q.drive.state = .safeHold ∧ q.winch.tow = none then .safeHold else .holding
    brakeTimer := if q.drive.state = .driving then some 0 else q.drive.brakeTimer } := by
  have htow : (winchCutoffEntry q).winch.tow = q.winch.tow := (VehicleKept.winchCutoffEntry q).tow
  unfold cutoffEntry
  rw [stopDrive_drive]
  cases hw : q.winch.tow with
  | none =>
    rw [endTow_of_none (htow.trans hw), winchCutoffEntry_drive]
    cases hst : q.drive.state <;> simp [Drive.zeroed, DriveState.afterStop, nextBrakeTimer, hst]
  | some w =>
    rw [endTow_drive_of_some (htow.trans hw), winchCutoffEntry_drive]
    simp [TowCause.driveState, DriveState.afterStop, Drive.zeroed, nextBrakeTimer]

theorem cutoffEntry_wheels (q : State) (w : Wheel) :
    (cutoffEntry q).wheels.get w = Channel.holdRequest false (q.wheels.get w) := by
  have htow : (winchCutoffEntry q).winch.tow = q.winch.tow := (VehicleKept.winchCutoffEntry q).tow
  unfold cutoffEntry
  rw [stopDrive_wheels, PerWheel.get_map]
  cases hw : q.winch.tow with
  | none => rw [endTow_of_none (htow.trans hw), winchCutoffEntry_wheels]
  | some x =>
    rw [endTow_wheels_of_some (htow.trans hw), PerWheel.get_map, winchCutoffEntry_wheels, Channel.holdRequest_idem]

/-- An entry to CUTOFF in its order: the winch, the tow link, the drive, the hold request. -/
theorem cutoffEntry_eq (q : State) : cutoffEntry q = handHold false
    { (if q.winch.tow.isSome = true then endTow .cutoff (winchCutoffEntry q) else winchCutoffEntry q) with
      drive := (cutoffEntry q).drive } := by
  have htow : (winchCutoffEntry q).winch.tow = q.winch.tow := (VehicleKept.winchCutoffEntry q).tow
  rw [← htow, ← endTow_eq_ite]
  simp only [cutoffEntry, stopDrive_drive]
  rfl

theorem cutoffEntry_attention (q : State) : (cutoffEntry q).disp.attention = q.disp.attention := by
  rw [cutoffEntry, stopDrive_disp, endTow_disp, winchCutoffEntry_eq]
  split
  · rfl
  · split
    · rw [endOp_disp]
      rfl
    · rfl

theorem cutoffEntry_holders (q : State) : (cutoffEntry q).disp.holders = q.disp.holders := by
  rw [cutoffEntry, stopDrive_disp, endTow_disp, (VehicleKept.winchCutoffEntry q).holders]

/-! ## A stage change (R117, R118) -/

/-- The part after a stage change's own records: the stage, the STAGE notice and STAGE_CHANGED. -/
def stageRecorded (new : Stage) (cause : StageCause) (q : State) : State :=
  { offer (.stage new (cause.previous q.supply.stage) q.supply.vComp cause) q with
    supply := { q.supply with stage := new, down := 0, up := 0, candidate := none }
    disp := { q.disp with attention := q.disp.attention.map fun _ k => postKind .stageChanged k } }

theorem changeStage_eq (new : Stage) (cause : StageCause) (q : State) : changeStage new cause q =
    if new = .cutoff then cutoffEntry (stageRecorded new cause q) else stageRecorded new cause q := rfl

theorem changeStage_supply (new : Stage) (cause : StageCause) (q : State) : (changeStage new cause q).supply =
    { q.supply with stage := new, down := 0, up := 0, candidate := none } := by
  rw [changeStage_eq]
  split
  · rw [cutoffEntry_supply]
    rfl
  · rfl

theorem changeStage_attention (new : Stage) (cause : StageCause) (q : State) (l : Link) :
    (changeStage new cause q).disp.attention.get l = postKind .stageChanged (q.disp.attention.get l) := by
  rw [changeStage_eq]
  split
  · rw [cutoffEntry_attention]
    exact PerLink.get_map _ _ _
  · exact PerLink.get_map _ _ _

theorem changeStage_holders (new : Stage) (cause : StageCause) (q : State) :
    (changeStage new cause q).disp.holders = q.disp.holders := by
  rw [changeStage_eq]
  split
  · rw [cutoffEntry_holders]
    rfl
  · rfl

/-- A change to another stage than CUTOFF touches no actuator (R117). -/
theorem changeStage_mild {new : Stage} (h : new ≠ .cutoff) (cause : StageCause) (q : State) :
    (changeStage new cause q).drive = q.drive ∧ (changeStage new cause q).wheels = q.wheels ∧
      (changeStage new cause q).winch = q.winch := by
  rw [changeStage_eq, if_neg h]
  exact ⟨rfl, rfl, rfl⟩

/-- A change to CUTOFF stops the drive, the wheels and the winch and ends the tow link (R41, R98, R104, R117). -/
theorem changeStage_cutoff (cause : StageCause) (q : State) :
    ((changeStage .cutoff cause q).drive.t = 0 ∧ (changeStage .cutoff cause q).drive.b = 0 ∧
      (changeStage .cutoff cause q).drive.bCmd = 0) ∧
    (∀ w, (changeStage .cutoff cause q).wheels.get w = Channel.holdRequest false (q.wheels.get w)) ∧
    (changeStage .cutoff cause q).winch.tow = none ∧
    (changeStage .cutoff cause q).winch.state =
      (if q.winch.state = .loadHold ∨ q.winch.state = .free then q.winch.state else .idle) := by
  rw [changeStage_eq, if_pos rfl]
  refine ⟨?_, fun w => ?_, ?_, ?_⟩
  · rw [cutoffEntry_drive]
    exact ⟨rfl, rfl, rfl⟩
  · rw [cutoffEntry_wheels]
    rfl
  · simp [cutoffEntry]
  · rw [cutoffEntry, stopDrive_winch, endTow_winch]
    exact winchCutoffEntry_state _

/-! ## The allocation that follows (R82, R49, R51, R122) -/

theorem channelShare_eq (c : Channel) :
    c.share = if c.state = .run ∨ c.state = .stall ∨ c.state = .holdActive then c.current else 0 := by
  cases h : c.state <;> simp [Channel.share, ChannelState.driven, h]

theorem winchCurrent_eq (w : Winch) : winchCurrent w =
    if w.state = .runIn ∨ w.state = .runOut ∨ w.state = .move ∨ w.state = .reference then w.current else 0 := by
  cases h : w.state <;> simp [winchCurrent, h]

/-- In CUTOFF an allocation leaves no factor to the drive or the winch (R128, R129). -/
theorem allocationStep_cutoff {d : State} (h : d.supply.stage = .cutoff) :
    (allocationStep d).alloc.gD = 0 ∧ (allocationStep d).alloc.gW = 0 := by
  simp [allocationStep, allocate, feedbackIn, h]

/-! ## The three kinds of period -/

theorem exec_supplyPeriod {x : Taps} {shunt : Int} {s : State} (hp : s.powered = true) :
    exec (.supplyPeriod x shunt) s = .next (arbitrate (allocationStep (supplyDecision x shunt s).1)) :=
  event_powered (f := fun s => (supplyPeriod x shunt s).1) hp

theorem exec_dwellDownReached {x : Taps} {shunt : Int} {s : State} (hp : s.powered = true)
    (h : SupplyHappening.dwellDown ∈ (supplyDecision x shunt s).2) :
    exec (.dwellDownReached x shunt) s = .next (arbitrate (allocationStep (supplyDecision x shunt s).1)) := by
  refine (event_powered (f := eventWhen SupplyHappening.dwellDown (supplyPeriod x shunt)) hp).trans ?_
  rw [eventWhen, supplyPeriod_eq, if_pos h]

theorem exec_dwellUpReached {x : Taps} {shunt : Int} {s : State} (hp : s.powered = true)
    (h : SupplyHappening.dwellUp ∈ (supplyDecision x shunt s).2) :
    exec (.dwellUpReached x shunt) s = .next (arbitrate (allocationStep (supplyDecision x shunt s).1)) := by
  refine (event_powered (f := eventWhen SupplyHappening.dwellUp (supplyPeriod x shunt)) hp).trans ?_
  rw [eventWhen, supplyPeriod_eq, if_pos h]

/-- The first supply period (R116). -/
theorem supplyPeriod_first {x : Taps} {shunt : Int} {s : State} (hp : s.powered = true)
    (hi : s.supply.initialPending = true) : ∃ n, exec (.supplyPeriod x shunt) s = .next n ∧
      n.supply.stage = n.supply.x ∧ (n.supply.x = .normal → n.disp = s.disp) ∧
      (n.supply.x ≠ .normal → ∀ m, n.disp.attention.get m = postKind .stageChanged (s.disp.attention.get m)) := by
  refine ⟨_, exec_supplyPeriod hp, ?_⟩
  rw [arbitrate_supply, arbitrate_disp, allocationStep_supply, allocationStep_disp, supplyDecision_first hi]
  by_cases hx : (readSupply x shunt s).supply.x = .normal
  · rw [if_pos hx]
    exact ⟨hx.symm, fun _ => rfl, fun hn => absurd hx hn⟩
  · rw [if_neg hx, changeStage_supply]
    exact ⟨rfl, fun hn => absurd hn hx, fun _ m => changeStage_attention _ _ _ m⟩

/-- A later period in CUTOFF (R114). -/
theorem supplyPeriod_cutoff {x : Taps} {shunt : Int} {s : State} (hp : s.powered = true)
    (hi : s.supply.initialPending = false) (hc : s.supply.stage = .cutoff) :
    ∃ n, exec (.supplyPeriod x shunt) s = .next n ∧
      n.supply.stage = .cutoff ∧ n.supply.down = 0 ∧ n.supply.up = 0 ∧ n.supply.candidate = none ∧
      n.disp = s.disp ∧ n.drive = s.drive ∧ n.wheels = s.wheels ∧ n.winch = s.winch ∧
      n.alloc.gD = 0 ∧ n.alloc.gW = 0 := by
  refine ⟨_, exec_supplyPeriod hp, ?_⟩
  rw [supplyDecision_later hi rfl, if_pos hc, arbitrate_alloc]
  exact ⟨hc, rfl, rfl, rfl, rfl, rfl, rfl, rfl, allocationStep_cutoff hc⟩

/-- A period whose down counter reaches the dwell down (R112, R117). -/
theorem supplyPeriod_descends {x : Taps} {shunt : Int} {s : State} (hi : s.supply.initialPending = false)
    (hc : s.supply.stage ≠ .cutoff)
    (hw : s.supply.stage.code < (readSupply x shunt s).supply.x.code)
    (hd : s.chassis.profile.nat .dwellDown ≤ s.supply.down + 10) : supplyDecision x shunt s =
      (changeStage (mildestOf s.supply (readSupply x shunt s).supply.x) .down (readSupply x shunt s), [.dwellDown]) := by
  rw [supplyDecision_later hi rfl, if_neg hc, if_pos ⟨hw, hd⟩]

/-- A period whose up counter reaches the dwell up (R113, R117). -/
theorem supplyPeriod_rises {x : Taps} {shunt : Int} {s : State} (hi : s.supply.initialPending = false)
    (hr : riseHolds s.chassis.profile s.supply.stage (readSupply x shunt s).supply.vComp = true)
    (hw : (readSupply x shunt s).supply.x.code ≤ s.supply.stage.code)
    (hu : s.chassis.profile.nat .dwellUp ≤ s.supply.up + 10) : supplyDecision x shunt s =
      (changeStage (if s.supply.stage = .conserve then .normal else .conserve) .up (readSupply x shunt s), [.dwellUp]) := by
  have hc : s.supply.stage ≠ .cutoff := by
    intro hx
    rw [hx] at hr
    cases hr
  rw [supplyDecision_later hi rfl, if_neg hc, if_neg fun h => absurd h.1 (Nat.not_lt.mpr hw), if_pos ⟨hr, hu⟩]

end Sys2Proof.Machine.MotionGeometry
end

section
/-! The stage moves by its rules: the four clauses of the statement (R112 to R118). -/

namespace Sys2Proof.Machine.MotionGeometry

/-! ## The moves of the stage -/

/-- A descent and what it touches (R112, R117). -/
theorem stage_descends {x : Taps} {shunt : Int} {s : State} (hp : s.powered = true)
    (hi : s.supply.initialPending = false) (hc : s.supply.stage ≠ .cutoff)
    (hw : s.supply.stage.code < (readSupply x shunt s).supply.x.code)
    (hd : s.chassis.profile.nat .dwellDown ≤ s.supply.down + 10) :
    ∃ n, exec (.dwellDownReached x shunt) s = .next n ∧ exec (.supplyPeriod x shunt) s = .next n ∧
      n.supply.stage = mildestOf s.supply (readSupply x shunt s).supply.x ∧
      n.supply.down = 0 ∧ n.supply.up = 0 ∧ n.supply.candidate = none ∧
      (∀ m, n.disp.attention.get m = postKind .stageChanged (s.disp.attention.get m)) ∧
      (mildestOf s.supply (readSupply x shunt s).supply.x ≠ .cutoff →
        n.drive = s.drive ∧ n.wheels = s.wheels ∧ n.winch = s.winch) ∧
      (mildestOf s.supply (readSupply x shunt s).supply.x = .cutoff →
        n.drive.t = 0 ∧ n.drive.b = 0 ∧ n.drive.bCmd = 0 ∧
        (∀ w, n.wheels.get w = Channel.holdRequest false (s.wheels.get w)) ∧ n.winch.tow = none ∧
        (n.winch.state = if s.winch.state = .loadHold ∨ s.winch.state = .free then s.winch.state else .idle) ∧
        n.alloc.gD = 0 ∧ n.alloc.gW = 0) ∧
      n.steer = s.steer ∧ n.lights = s.lights ∧ n.chassis = s.chassis ∧ n.disp.holders = s.disp.holders := by
  have hdec := supplyPeriod_descends hi hc hw hd
  generalize mildestOf s.supply (readSupply x shunt s).supply.x = new at hdec ⊢
  refine ⟨_, exec_dwellDownReached hp (by simp [hdec]), exec_supplyPeriod hp, ?_⟩
  rw [hdec]
  simp only [arbitrate_supply, arbitrate_disp, arbitrate_drive, arbitrate_wheels, arbitrate_winch, arbitrate_alloc,
    arbitrate_steer, arbitrate_lights, arbitrate_chassis, allocationStep_supply, allocationStep_disp,
    allocationStep_drive, allocationStep_wheels, allocationStep_winch, allocationStep_steer, allocationStep_lights,
    allocationStep_chassis, changeStage_supply, changeStage_steer, changeStage_lights, changeStage_chassis]
  refine ⟨trivial, trivial, trivial, trivial, fun m => changeStage_attention _ _ _ m, fun hn => ?_, fun hn => ?_, rfl,
    rfl, rfl, changeStage_holders _ _ _⟩
  · exact changeStage_mild hn .down (readSupply x shunt s)
  · subst hn
    obtain ⟨⟨ht, hb, hcmd⟩, hwheels, htow, hstate⟩ := changeStage_cutoff .down (readSupply x shunt s)
    have hcut := allocationStep_cutoff (d := changeStage .cutoff .down (readSupply x shunt s))
      (changeStage_stage _ _ _)
    exact ⟨ht, hb, hcmd, hwheels, htow, hstate, hcut⟩

/-- A rise and what it touches (R113, R117). -/
theorem stage_rises {x : Taps} {shunt : Int} {s : State} (hp : s.powered = true)
    (hi : s.supply.initialPending = false)
    (hr : riseHolds s.chassis.profile s.supply.stage (readSupply x shunt s).supply.vComp = true)
    (hw : (readSupply x shunt s).supply.x.code ≤ s.supply.stage.code)
    (hu : s.chassis.profile.nat .dwellUp ≤ s.supply.up + 10) :
    ∃ n, exec (.dwellUpReached x shunt) s = .next n ∧ exec (.supplyPeriod x shunt) s = .next n ∧
      n.supply.stage = (if s.supply.stage = .conserve then .normal else .conserve) ∧
      n.supply.down = 0 ∧ n.supply.up = 0 ∧ n.supply.candidate = none ∧
      (∀ m, n.disp.attention.get m = postKind .stageChanged (s.disp.attention.get m)) ∧
      n.drive = s.drive ∧ n.wheels = s.wheels ∧ n.winch = s.winch ∧ n.steer = s.steer ∧ n.lights = s.lights ∧
      n.chassis = s.chassis := by
  have hdec := supplyPeriod_rises hi hr hw hu
  have hnew : (if s.supply.stage = .conserve then Stage.normal else .conserve) ≠ .cutoff := by
    split <;> decide
  generalize (if s.supply.stage = .conserve then Stage.normal else .conserve) = new at hdec hnew ⊢
  obtain ⟨hdrive, hwheels, hwinch⟩ := changeStage_mild hnew .up (readSupply x shunt s)
  refine ⟨_, exec_dwellUpReached hp (by simp [hdec]), exec_supplyPeriod hp, ?_⟩
  rw [hdec]
  simp only [arbitrate_supply, arbitrate_disp, arbitrate_drive, arbitrate_wheels, arbitrate_winch, arbitrate_steer,
    arbitrate_lights, arbitrate_chassis, allocationStep_supply, allocationStep_disp, allocationStep_drive,
    allocationStep_wheels, allocationStep_winch, allocationStep_steer, allocationStep_lights, allocationStep_chassis,
    changeStage_supply, changeStage_steer, changeStage_lights, changeStage_chassis, hdrive, hwheels, hwinch]
  exact ⟨trivial, trivial, trivial, trivial, fun m => changeStage_attention _ _ _ m, rfl, rfl, rfl, rfl, rfl, rfl⟩

/-! ## The whole period -/

theorem allocationStep_eq (d : State) : allocationStep d = { d with
    alloc := allocate d.chassis.profile d.supply.stage d.winch.tow.isSome (max d.steer.sampleNew d.steer.sampleOld)
      (d.wheels.fl.share + d.wheels.fr.share + d.wheels.rl.share + d.wheels.rr.share) (winchCurrent d.winch)
      d.lights.iLest d.alloc } := rfl

/-- The stage decision moves neither the steering, the lights, the profile store nor the allocator. -/
theorem supplyDecision_kept (x : Taps) (shunt : Int) (s : State) :
    (supplyDecision x shunt s).1.steer = s.steer ∧ (supplyDecision x shunt s).1.lights = s.lights ∧
      (supplyDecision x shunt s).1.chassis = s.chassis ∧ (supplyDecision x shunt s).1.alloc = s.alloc := by
  simp [supplyDecision]

/-- The decision as one case distinction, with the part's state after each case (R112 to R114, R116). -/
theorem supplyDecision_state {x : Taps} {shunt : Int} {s q : State} (hq : readSupply x shunt s = q) :
    (supplyDecision x shunt s).1 =
      if s.supply.initialPending = true then
        (if q.supply.x = .normal then setSupply { q.supply with stage := .normal } q
          else changeStage q.supply.x .initial q)
      else if s.supply.stage = .cutoff then setSupply { q.supply with down := 0, up := 0, candidate := none } q
      else if q.supply.x.worse s.supply.stage = true ∧ s.chassis.profile.nat .dwellDown ≤ s.supply.down + 10 then
        changeStage (mildestOf s.supply q.supply.x) .down q
      else if riseHolds s.chassis.profile s.supply.stage q.supply.vComp = true ∧
          s.chassis.profile.nat .dwellUp ≤ s.supply.up + 10 then
        changeStage (if s.supply.stage = .conserve then .normal else .conserve) .up q
      else setSupply (countedSupply s.chassis.profile q.supply) q := by
  cases hi : s.supply.initialPending with
  | true =>
    rw [supplyDecision_first hi, hq]
    rfl
  | false =>
    rw [supplyDecision_later hi hq]
    simp only [apply_ite Prod.fst, Stage.worse, decide_eq_true_eq, Bool.false_eq_true, if_false]

/-- Settles O49: the stage decision by its cases, a change as `changeStage` makes it, and the allocation after it. -/
theorem stageMovesByItsRules : Obligations.StageMovesByItsRules := by
  refine ⟨fun x shunt s hp => ⟨supplyPeriod_first hp, supplyPeriod_cutoff hp⟩, ?_, ?_, ?_⟩
  · intro x shunt s hp hi hc p now mildest hw hd
    exact stage_descends hp hi hc hw hd
  · intro x shunt s hp hi hst p comp threshold hr hw hu
    refine stage_rises hp hi ?_ hw hu
    rw [riseHolds_eq, decide_eq_true_eq]
    rcases hst with hst | hst
    · have hconserve := hr
      simp only [threshold, hst, if_true] at hconserve
      exact .inl ⟨hst, hconserve⟩
    · have hlimit := hr
      simp only [threshold, hst, reduceCtorEq, if_false] at hlimit
      exact .inr ⟨hst, hlimit⟩
  · intro x shunt s hp p comp now old read counted stopped cut moved worse mildest rises decided share d w
    have hmoved : ∀ new cause, changeStage new cause read = moved new (cause.previous old.stage) cause := by
      intro new cause
      have hcut : cutoffEntry (stageRecorded new cause read) = cut (stageRecorded new cause read) := by
        rw [cutoffEntry_eq, cutoffEntry_drive, winchCutoffEntry_eq]
        rfl
      rw [changeStage_eq, hcut]
      rfl
    have hrises : riseHolds s.chassis.profile s.supply.stage read.supply.vComp = rises := riseHolds_eq _ _ _
    have hcounted : setSupply (countedSupply s.chassis.profile read.supply) read =
        counted (if worse = true then old.down + 10 else 0) (if rises = true then old.up + 10 else 0)
          (if worse = true then some mildest else none) := by
      have hnext : nextCandidate read.supply = mildest := nextCandidate_eq _
      have hrate : riseHolds s.chassis.profile read.supply.stage read.supply.vComp = rises := hrises
      simp only [countedSupply, hnext, hrate]
      rfl
    have hdecided : (supplyDecision x shunt s).1 = decided := by
      rw [supplyDecision_state (q := read) rfl, hmoved, hmoved, hmoved, hcounted, hrises]
      rfl
    obtain ⟨hsteer, hlights, hchassis, halloc⟩ := supplyDecision_kept x shunt s
    rw [hdecided] at hsteer hlights hchassis halloc
    rw [exec_supplyPeriod hp, hdecided, allocationStep_eq, hsteer, hlights, hchassis, halloc, winchCurrent_eq]
    simp only [channelShare_eq]
    rfl

end Sys2Proof.Machine.MotionGeometry
end

section
/-! The nine steps of the regulator period, each by the state of the channel (R50 to R53, R56 to R64). -/

namespace Sys2Proof.Machine.WheelChannels

/-! ## Measurement, fault window and regulator, as functions of the channel -/

/-- The fault history after a period without a trip (R64). -/
def aged (h : FaultHistory) : FaultHistory :=
  match h with
  | .armed x => if 2000 ≤ x + 1 then .none else .armed (x + 1)
  | .none => .none
  | .latched => .latched

/-- The channel after the steps 1 and 3 of a period without a trip, the creep count apart (R50, R51, R64). -/
def measured (count : Int) (sense : Nat) (c : Channel) : Channel :=
  { c with
    window := c.window.drop 1 ++ [count]
    m := clampInt (-30000) 30000 ((c.window.drop 1 ++ [count]).sum * 50)
    current := min sense 45000
    history := aged c.history }

/-- The duty after the incremental regulator, for an error and a duty limit (R53). -/
def regulated (p : Profile) (limit e d0 e0 : Int) : Int :=
  clampInt (-limit) limit (d0 + Int.tdiv (p.get .kp * (e - e0) + p.get .ki * e) 256)

/-- From a cleared memory (R53, R56, R63). -/
theorem regulated_of_cleared (p : Profile) (limit e : Int) : regulated p limit e 0 0 =
    clampInt (-limit) limit (Int.tdiv (p.get .kp * e + p.get .ki * e) 256) := by
  rw [regulated, Int.zero_add, Int.sub_zero]

theorem measureStep_of_hold (count : Int) (sense : Nat) {c : Channel} (h : c.state = .hold) :
    { measureStep count sense c with history := aged c.history } =
      { measured count sense c with creep := c.creep + count.natAbs } := by
  have hmag : (mag count).toNat = count.natAbs := by
    unfold mag
    split <;> omega
  simp only [measureStep, measured, h, hmag, if_true]

theorem measureStep_of_other (count : Int) (sense : Nat) {c : Channel} (h : c.state ≠ .hold) :
    measureStep count sense c = { measured count sense c with history := c.history } := by
  simp only [measureStep, measured, h, if_false]

/-- A trip is a sample above the fault trip in a driven state (R62). -/
theorem trips_measureStep (p : Profile) (count : Int) (sense : Nat) (c : Channel) :
    trips p (measureStep count sense c) =
      (c.state.driven && decide (p.get .faultTrip < ((min sense 45000 : Nat) : Int))) := rfl

theorem trips_eq_false {p : Profile} {count : Int} {sense : Nat} {c : Channel}
    (h : c.state.driven = false ∨ ((min sense 45000 : Nat) : Int) ≤ p.get .faultTrip) :
    trips p (measureStep count sense c) = false := by
  rw [trips_measureStep, Bool.and_eq_false_iff, decide_eq_false_iff_not, Int.not_lt]
  exact h

/-- What the fault window brings about (R64). -/
def windowHappening (h : FaultHistory) : List ChannelHappening :=
  match h with
  | .armed x => if 2000 ≤ x + 1 then [.windowClosed] else []
  | .none | .latched => []

theorem windowStep_eq (c : Channel) :
    windowStep ⟨c, [], []⟩ = ⟨{ c with history := aged c.history }, [], windowHappening c.history⟩ := by
  obtain ⟨state, target, m, window, current, d, ePrev, creep, settle, stallTimer, positive, rest, history, bridge⟩ := c
  cases history with
  | none | latched => rfl
  | armed x =>
    by_cases h : 2000 ≤ x + 1 <;>
      simp only [windowStep, aged, windowHappening, ChannelWork.mark, h, if_true, if_false, List.nil_append]

@[simp] theorem signDrawn_not_mem_windowHappening (h : FaultHistory) :
    ChannelHappening.signDrawn ∉ windowHappening h := by
  cases h with
  | none | latched => simp [windowHappening]
  | armed x =>
    simp only [windowHappening]
    split <;> simp

/-! ## Steps 3 to 6: the transitions -/

/-- Steps 3 to 6 after the fault window: the timers, CUTOFF, the target and the creep (R52). -/
def transitions (p : Profile) (stage : Stage) (k : ChannelWork) : ChannelWork :=
  creepStep p stage (targetStep (cutoffStep stage (restStep p k)))

section
variable {p : Profile} {stage : Stage} {c : Channel} {ns : List (WheelEvent × Int)} {hs : List ChannelHappening}

theorem transitions_of_run (h : c.state = .run) : transitions p stage ⟨c, ns, hs⟩ = ⟨c, ns, hs⟩ := by
  simp [transitions, restStep, cutoffStep, targetStep, creepStep, h]

theorem transitions_of_off (h : c.state = .off) : transitions p stage ⟨c, ns, hs⟩ = ⟨c, ns, hs⟩ := by
  simp [transitions, restStep, cutoffStep, targetStep, creepStep, h]

/-- A target that is not 0 takes a HOLD to RUN from memory 0 (R54). -/
theorem transitions_of_hold_target (h : c.state = .hold) (ht : c.target ≠ 0) :
    transitions p stage ⟨c, ns, hs⟩ = ⟨c.toRun 0 0, ns, hs⟩ := by
  simp [transitions, restStep, cutoffStep, targetStep, creepStep, Channel.toRun, h, ht]

theorem transitions_of_hold_creeping (h : c.state = .hold) (ht : c.target = 0)
    (hc : p.nat .holdCreep ≠ 0) (hs' : stage ≠ .cutoff) (hlt : p.nat .holdCreep < c.creep) :
    transitions p stage ⟨c, ns, hs⟩ =
      ⟨{ c with state := .holdActive, d := 0, ePrev := 0, settle := 0 }, ns, hs ++ [.creepExceeded]⟩ := by
  simp [transitions, restStep, cutoffStep, targetStep, creepStep, ChannelWork.mark, h, ht, hc, hs', hlt]

theorem transitions_of_hold_staying (h : c.state = .hold) (ht : c.target = 0)
    (hc : p.nat .holdCreep = 0 ∨ stage = .cutoff ∨ c.creep ≤ p.nat .holdCreep) :
    transitions p stage ⟨c, ns, hs⟩ = ⟨c, ns, hs⟩ := by
  have hno : ¬(p.nat .holdCreep ≠ 0 ∧ stage ≠ .cutoff ∧ p.nat .holdCreep < c.creep) := by
    rintro ⟨h0, hstage, hlt⟩
    rcases hc with hc | hc | hc
    · exact h0 hc
    · exact hstage hc
    · omega
  simp [transitions, restStep, cutoffStep, targetStep, creepStep, h, ht, hno]

/-- The settle timer short of its end: it advances while the wheel is still (R57). -/
theorem restStep_of_settling (h : c.state = .holdActive) (hsettle : ¬(c.m = 0 ∧ 200 ≤ c.settle + 1)) :
    restStep p ⟨c, ns, hs⟩ = ⟨{ c with settle := if c.m = 0 then c.settle + 1 else 0 }, ns, hs⟩ := by
  by_cases hm : c.m = 0
  · have hlow : ¬200 ≤ c.settle + 1 := fun hle => hsettle ⟨hm, hle⟩
    simp [restStep, h, hm, hlow]
  · simp [restStep, h, hm]

/-- A HOLD_ACTIVE that goes on, outside CUTOFF (R57). -/
theorem transitions_of_holdActive_zero (h : c.state = .holdActive) (ht : c.target = 0) (hstage : stage ≠ .cutoff)
    (hsettle : ¬(c.m = 0 ∧ 200 ≤ c.settle + 1)) : transitions p stage ⟨c, ns, hs⟩ =
      ⟨{ c with settle := if c.m = 0 then c.settle + 1 else 0 }, ns, hs⟩ := by
  simp [transitions, restStep_of_settling h hsettle, cutoffStep, targetStep, creepStep, h, ht, hstage]

/-- A target that is not 0 takes a HOLD_ACTIVE to RUN with its memory (R54). -/
theorem transitions_of_holdActive_target (h : c.state = .holdActive) (ht : c.target ≠ 0) (hstage : stage ≠ .cutoff)
    (hsettle : ¬(c.m = 0 ∧ 200 ≤ c.settle + 1)) :
    transitions p stage ⟨c, ns, hs⟩ = ⟨c.toRun c.d c.ePrev, ns, hs⟩ := by
  simp [transitions, restStep_of_settling h hsettle, cutoffStep, targetStep, creepStep, Channel.toRun, h, ht, hstage]

/-- CUTOFF ends a HOLD_ACTIVE whose settle timer has not (R58). -/
theorem transitions_of_holdActive_cutoff (h : c.state = .holdActive) (ht : c.target = 0)
    (hsettle : ¬(c.m = 0 ∧ 200 ≤ c.settle + 1)) :
    transitions p .cutoff ⟨c, ns, hs⟩ = ⟨c.toHold, ns, hs⟩ := by
  simp [transitions, restStep_of_settling h hsettle, cutoffStep, targetStep, creepStep, Channel.toHold, h, ht]

/-- The settle timer at its end, in every stage (R57). -/
theorem transitions_of_holdActive_settled (h : c.state = .holdActive) (ht : c.target = 0) (hm : c.m = 0)
    (hsettle : 200 ≤ c.settle + 1) :
    transitions p stage ⟨c, ns, hs⟩ = ⟨c.toHold, ns, hs ++ [.settleEnded]⟩ := by
  simp [transitions, restStep, cutoffStep, targetStep, creepStep, Channel.toHold, ChannelWork.mark, h, ht, hm, hsettle]

/-- The rest of a STALL at its end, before the target is looked at (R60). -/
theorem transitions_of_stall_rested (h : c.state = .stall) (hr : p.nat .stallRest ≤ c.rest + 1) :
    transitions p stage ⟨c, ns, hs⟩ =
      ⟨c.toRun c.d c.ePrev, ns ++ [(.stallOff, 0)], hs ++ [.stallRestEnded]⟩ := by
  simp [transitions, restStep, cutoffStep, targetStep, creepStep, Channel.toRun, ChannelWork.note, ChannelWork.mark,
    h, hr]

/-- A target of 0 or of the other sign ends a STALL, with its cause (R61). -/
theorem transitions_of_stall_turned (h : c.state = .stall) (hr : c.rest + 1 < p.nat .stallRest)
    (ht : c.target = 0 ∨ decide (0 < c.target) ≠ c.stallPositive) :
    transitions p stage ⟨c, ns, hs⟩ =
      ⟨c.toRun c.d c.ePrev, ns ++ [(.stallOff, if c.target = 0 then 1 else 2)], hs⟩ := by
  have hrest : ¬p.nat .stallRest ≤ c.rest + 1 := by omega
  by_cases h0 : c.target = 0
  · simp [transitions, restStep, cutoffStep, targetStep, creepStep, Channel.toRun, ChannelWork.note, h, hrest, h0]
  · have hsign := ht.resolve_left h0
    simp [transitions, restStep, cutoffStep, targetStep, creepStep, Channel.toRun, ChannelWork.note, h, hrest, h0, hsign]

theorem transitions_of_stall_kept (h : c.state = .stall) (hr : c.rest + 1 < p.nat .stallRest)
    (h0 : c.target ≠ 0) (hsign : decide (0 < c.target) = c.stallPositive) :
    transitions p stage ⟨c, ns, hs⟩ = ⟨{ c with rest := c.rest + 1 }, ns, hs⟩ := by
  have hrest : ¬p.nat .stallRest ≤ c.rest + 1 := by omega
  simp [transitions, restStep, cutoffStep, targetStep, creepStep, h, hrest, h0, hsign]

/-- The rest of a FAULT at its end: HOLD at target 0, else RUN from memory 0 (R63). -/
theorem transitions_of_fault_rested (h : c.state = .fault) (hr : 200 ≤ c.rest + 1) :
    transitions p stage ⟨c, ns, hs⟩ =
      ⟨if c.target = 0 then c.toHold else c.toRun 0 0, ns, hs ++ [.faultRestEnded]⟩ := by
  by_cases h0 : c.target = 0 <;>
    simp [transitions, restStep, cutoffStep, targetStep, creepStep, Channel.toHold, Channel.toRun, ChannelWork.mark,
      h, hr, h0]

theorem transitions_of_fault_resting (h : c.state = .fault) (hr : c.rest + 1 < 200) :
    transitions p stage ⟨c, ns, hs⟩ = ⟨{ c with rest := c.rest + 1 }, ns, hs⟩ := by
  have hrest : ¬200 ≤ c.rest + 1 := by omega
  simp [transitions, restStep, cutoffStep, targetStep, creepStep, h, hrest]

end

/-! ## Steps 7 to 9: the regulator, the stall and the bridge -/

/-- Steps 7 to 9 (R52). -/
def driveSteps (p : Profile) (free : Bool) (k : ChannelWork) : ChannelWork :=
  outputStep (stallStep p free (regulateStep p k))

/-- The channel after the regulator under a duty limit (R53). -/
def withDuty (p : Profile) (limit e : Int) (c : Channel) : Channel :=
  { c with d := regulated p limit e c.d c.ePrev, ePrev := e }

/-- The channel with its bridge driven at its duty (R49). -/
def driving (c : Channel) : Channel := { c with bridge := .driven c.d }

/-- The channel of a RUN after the steps 7 to 9, its stall not due (R53, R59). -/
def running (p : Profile) (c : Channel) : Channel :=
  let k := withDuty p 1000 (c.target - c.m) c
  driving { k with stallTimer := if stallCondition p k then c.stallTimer + 1 else 0 }

/-- The channel of a RUN whose stall is due, after the steps 7 to 9 (R53, R59). -/
def stalled (p : Profile) (free : Bool) (c : Channel) : Channel :=
  let k := withDuty p 1000 (c.target - c.m) c
  driving { k with
    state := .stall
    d := clampInt (-(p.get .stallCap)) (p.get .stallCap) k.d
    stallTimer := 0
    rest := 0
    stallPositive := if c.target = 0 then free else decide (0 < c.target) }

section
variable {p : Profile} {free : Bool} {c : Channel} {ns : List (WheelEvent × Int)} {hs : List ChannelHappening}

theorem regulateStep_of_run (h : c.state = .run) : regulateStep p ⟨c, ns, hs⟩ =
    ⟨withDuty p 1000 (c.target - c.m) c, ns, hs⟩ := by
  simp [regulateStep, h, ChannelState.driven, dutyLimit, truncDiv, withDuty, regulated]

theorem stallStep_of_early (h : c.state = .run)
    (hstall : ¬(stallCondition p c = true ∧ p.nat .stallTime ≤ c.stallTimer + 1)) : stallStep p free ⟨c, ns, hs⟩ =
      ⟨{ c with stallTimer := if stallCondition p c then c.stallTimer + 1 else 0 }, ns, hs⟩ := by
  by_cases hc : stallCondition p c = true
  · have hearly : ¬p.nat .stallTime ≤ c.stallTimer + 1 := fun hdue => hstall ⟨hc, hdue⟩
    simp [stallStep, h, hc, hearly]
  · simp [stallStep, h, hc]

theorem stallStep_of_due (h : c.state = .run) (hc : stallCondition p c = true)
    (hdue : p.nat .stallTime ≤ c.stallTimer + 1) : stallStep p free ⟨c, ns, hs⟩ =
      ⟨{ c with
          state := .stall
          d := clampInt (-(p.get .stallCap)) (p.get .stallCap) c.d
          stallTimer := 0
          rest := 0
          stallPositive := if c.target = 0 then free else decide (0 < c.target) },
        ns ++ [(.stallOn, c.d)], hs ++ [.stallReached] ++ if c.target = 0 then [.signDrawn] else []⟩ := by
  by_cases h0 : c.target = 0 <;> simp [stallStep, ChannelWork.note, ChannelWork.mark, h, hc, hdue, h0]

theorem driveSteps_of_run (h : c.state = .run)
    (hstall : ¬(stallCondition p (withDuty p 1000 (c.target - c.m) c) = true ∧ p.nat .stallTime ≤ c.stallTimer + 1)) :
    driveSteps p free ⟨c, ns, hs⟩ = ⟨running p c, ns, hs⟩ := by
  rw [driveSteps, regulateStep_of_run h, stallStep_of_early (by exact h) hstall]
  simp only [outputStep, Channel.bridgeOf, running, driving, withDuty, h]

/-- An entry to RUN is too early for a stall (R59). -/
theorem driveSteps_of_toRun (htime : 1 < p.nat .stallTime) (d e : Int) :
    driveSteps p free ⟨c.toRun d e, ns, hs⟩ = ⟨running p (c.toRun d e), ns, hs⟩ := by
  refine driveSteps_of_run rfl fun hdue => ?_
  have hle : p.nat .stallTime ≤ 0 + 1 := hdue.2
  omega

theorem driveSteps_of_run_due (h : c.state = .run)
    (hc : stallCondition p (withDuty p 1000 (c.target - c.m) c) = true)
    (hdue : p.nat .stallTime ≤ c.stallTimer + 1) : driveSteps p free ⟨c, ns, hs⟩ =
      ⟨stalled p free c, ns ++ [(.stallOn, regulated p 1000 (c.target - c.m) c.d c.ePrev)],
        hs ++ [.stallReached] ++ if c.target = 0 then [.signDrawn] else []⟩ := by
  rw [driveSteps, regulateStep_of_run h, stallStep_of_due (by exact h) hc hdue]
  rfl

theorem driveSteps_of_stall (h : c.state = .stall) : driveSteps p free ⟨c, ns, hs⟩ =
    ⟨driving (withDuty p (p.get .stallCap) (c.target - c.m) c), ns, hs⟩ := by
  simp [driveSteps, regulateStep, stallStep, outputStep, Channel.bridgeOf, ChannelState.driven, dutyLimit, truncDiv,
    driving, withDuty, regulated, h]

theorem driveSteps_of_holdActive (h : c.state = .holdActive) : driveSteps p free ⟨c, ns, hs⟩ =
    ⟨driving (withDuty p (p.get .holdDuty) (-c.m) c), ns, hs⟩ := by
  simp [driveSteps, regulateStep, stallStep, outputStep, Channel.bridgeOf, ChannelState.driven, dutyLimit, truncDiv,
    driving, withDuty, regulated, h]

theorem driveSteps_of_undriven (h : c.state.driven = false) : driveSteps p free ⟨c, ns, hs⟩ =
    ⟨{ c with bridge := c.bridgeOf }, ns, hs⟩ := by
  have hrun : c.state ≠ .run := fun hr => by simp [hr, ChannelState.driven] at h
  simp [driveSteps, regulateStep, stallStep, outputStep, h, hrun, Channel.bridgeOf]

end

/-! ## The whole period -/

section
variable {p : Profile} {stage : Stage} {free : Bool} {count : Int} {sense : Nat} {c : Channel}

theorem channelPeriod_of_no_trip (h : trips p (measureStep count sense c) = false) :
    channelPeriod p stage free count sense c = driveSteps p free (transitions p stage
      ⟨{ measureStep count sense c with history := aged c.history }, [], windowHappening c.history⟩) := by
  simp only [channelPeriod, h, windowStep_eq, Bool.false_eq_true, if_false]
  rfl

/-- A period of a HOLD, which counts its creep (R56). -/
theorem channelPeriod_of_hold (h : c.state = .hold) :
    channelPeriod p stage free count sense c = driveSteps p free (transitions p stage
      ⟨{ measured count sense c with creep := c.creep + count.natAbs }, [], windowHappening c.history⟩) := by
  rw [channelPeriod_of_no_trip (trips_eq_false (.inl (by rw [h]; rfl))), measureStep_of_hold count sense h]

/-- A period of another state without a trip (R62). -/
theorem channelPeriod_of_measured (h : c.state ≠ .hold)
    (htrip : c.state.driven = false ∨ ((min sense 45000 : Nat) : Int) ≤ p.get .faultTrip) :
    channelPeriod p stage free count sense c = driveSteps p free (transitions p stage
      ⟨measured count sense c, [], windowHappening c.history⟩) := by
  rw [channelPeriod_of_no_trip (trips_eq_false htrip), measureStep_of_other count sense h]
  rfl

theorem channelPeriod_of_trip (h : c.state.driven = true) (htrip : p.get .faultTrip < ((min sense 45000 : Nat) : Int)) :
    channelPeriod p stage free count sense c =
      outputStep (tripStep ⟨{ measured count sense c with history := c.history }, [], []⟩) := by
  have hyes : trips p (measureStep count sense c) = true := by
    rw [trips_measureStep, h, decide_eq_true htrip]
    rfl
  have hhold : c.state ≠ .hold := fun hst => by simp [hst, ChannelState.driven] at h
  simp only [channelPeriod, hyes, if_true]
  rw [measureStep_of_other count sense hhold]

end

/-- The channel after a trip, a first fault or one that latches (R62). -/
def tripped (first : Bool) (c : Channel) : Channel :=
  { c with
    state := if first then .fault else .off
    history := if first then .armed 0 else .latched
    d := 0
    ePrev := 0
    settle := 0
    stallTimer := 0
    rest := 0
    bridge := .opened }

/-- The steps of a trip, with the notices in their order (R62, R66). -/
theorem outputStep_tripStep {c : Channel} {first : Bool} (h : c.history.latches = !first) :
    outputStep (tripStep ⟨c, [], []⟩) = ⟨tripped first c,
      (if c.state = .stall then [(.stallOff, 4)] else []) ++ [(if first then .fault else .faultLatched, (c.current : Int))],
      []⟩ := by
  by_cases hs : c.state = .stall <;> cases first <;>
    simp [tripStep, outputStep, ChannelWork.note, Channel.bridgeOf, tripped, h, hs]

/-! ## The period in the part -/

/-- The part with a channel's period taken over: the channel put back and its notices offered (R52, R66). -/
def handed (w : Wheel) (k : ChannelWork) (s : State) : State :=
  offerList (k.notices.map fun n => .wheel w n.1 n.2) { s with wheels := s.wheels.set w k.ch }

section
variable {w : Wheel} {count : Int} {sense : Nat} {s : State} {k : ChannelWork}
  (h : channelPeriod s.chassis.profile s.supply.stage (Config.stallSignOfZero s.draws) count sense (s.wheels.get w) = k)
include h

theorem exec_regulatorPeriod_eq (hp : s.powered = true) : exec (.regulatorPeriod w count sense) s =
    .next (arbitrate (handed w k { s with
      draws := if ChannelHappening.signDrawn ∈ k.happened then s.draws + 1 else s.draws })) := by
  refine (event_powered (f := fun s => (regulatorPeriod w count sense s).1) hp).trans ?_
  simp only [regulatorPeriod, handed, h]

/-- A period in which no free sign is drawn (R52). -/
theorem exec_regulatorPeriod (hp : s.powered = true) (hd : ChannelHappening.signDrawn ∉ k.happened) :
    exec (.regulatorPeriod w count sense) s = .next (arbitrate (handed w k s)) := by
  rw [exec_regulatorPeriod_eq h hp, if_neg hd]

/-- A row that names an outcome of the period is the period that brings it about. -/
theorem event_eventWhen {x : ChannelHappening} (hx : x ∈ k.happened) :
    event (eventWhen x (regulatorPeriod w count sense)) s = exec (.regulatorPeriod w count sense) s := by
  have hwhen : eventWhen x (regulatorPeriod w count sense) s = (regulatorPeriod w count sense s).1 := by
    refine if_pos ?_
    rw [← h] at hx
    exact hx
  change event _ s = event (fun s => (regulatorPeriod w count sense s).1) s
  simp only [event, hwhen]

theorem event_of_happened {x : ChannelHappening} (hp : s.powered = true) (hx : x ∈ k.happened)
    (hd : ChannelHappening.signDrawn ∉ k.happened) :
    event (eventWhen x (regulatorPeriod w count sense)) s = .next (arbitrate (handed w k s)) :=
  (event_eventWhen h hx).trans (exec_regulatorPeriod h hp hd)

end

end Sys2Proof.Machine.WheelChannels
end

section
/-! The regulator period of a channel, state by state, up to its bridge (R53 to R66). -/

namespace Sys2Proof.Machine.WheelChannels

section
variable {p : Profile} {stage : Stage} {free : Bool} {count : Int} {sense : Nat} {c : Channel}

/-! ## HOLD (R54, R56) -/

theorem channelPeriod_of_hold_target (h : c.state = .hold) (ht : c.target ≠ 0) (htime : 1 < p.nat .stallTime) :
    channelPeriod p stage free count sense c =
      ⟨running p (Channel.toRun { measured count sense c with creep := c.creep + count.natAbs } 0 0), [],
        windowHappening c.history⟩ := by
  rw [channelPeriod_of_hold h, transitions_of_hold_target (by exact h) (by exact ht), driveSteps_of_toRun htime]

theorem channelPeriod_of_hold_creeping (h : c.state = .hold) (ht : c.target = 0) (hc : p.nat .holdCreep ≠ 0)
    (hstage : stage ≠ .cutoff) (hlt : p.nat .holdCreep < c.creep + count.natAbs) :
    channelPeriod p stage free count sense c =
      ⟨driving (withDuty p (p.get .holdDuty) (-(measured count sense c).m) { measured count sense c with
        creep := c.creep + count.natAbs, state := .holdActive, d := 0, ePrev := 0, settle := 0 }), [],
        windowHappening c.history ++ [.creepExceeded]⟩ := by
  rw [channelPeriod_of_hold h, transitions_of_hold_creeping (by exact h) (by exact ht) hc hstage (by exact hlt),
    driveSteps_of_holdActive rfl]

theorem channelPeriod_of_hold_staying (h : c.state = .hold) (ht : c.target = 0)
    (hc : p.nat .holdCreep = 0 ∨ stage = .cutoff ∨ c.creep + count.natAbs ≤ p.nat .holdCreep) :
    channelPeriod p stage free count sense c =
      ⟨{ measured count sense c with creep := c.creep + count.natAbs, bridge := .brake }, [],
        windowHappening c.history⟩ := by
  rw [channelPeriod_of_hold h, transitions_of_hold_staying (by exact h) (by exact ht) (by exact hc),
    driveSteps_of_undriven (by simp [measured, h, ChannelState.driven])]
  simp [Channel.bridgeOf, measured, h]

/-! ## HOLD_ACTIVE (R54, R57, R58) -/

section
variable (h : c.state = .holdActive) (htrip : ((min sense 45000 : Nat) : Int) ≤ p.get .faultTrip)
include h htrip

theorem channelPeriod_of_holdActive_target (ht : c.target ≠ 0) (htime : 1 < p.nat .stallTime) (hstage : stage ≠ .cutoff)
    (hsettle : ¬((measured count sense c).m = 0 ∧ 200 ≤ c.settle + 1)) : channelPeriod p stage free count sense c =
      ⟨running p ((measured count sense c).toRun c.d c.ePrev), [], windowHappening c.history⟩ := by
  rw [channelPeriod_of_measured (by simp [h]) (.inr htrip),
    transitions_of_holdActive_target (c := measured count sense c) h ht hstage hsettle,
    driveSteps_of_toRun htime]
  rfl

theorem channelPeriod_of_holdActive_zero (ht : c.target = 0) (hstage : stage ≠ .cutoff)
    (hsettle : ¬((measured count sense c).m = 0 ∧ 200 ≤ c.settle + 1)) : channelPeriod p stage free count sense c =
      ⟨driving (withDuty p (p.get .holdDuty) (-(measured count sense c).m) { measured count sense c with
        settle := if (measured count sense c).m = 0 then c.settle + 1 else 0 }), [], windowHappening c.history⟩ := by
  rw [channelPeriod_of_measured (by simp [h]) (.inr htrip),
    transitions_of_holdActive_zero (c := measured count sense c) h ht hstage hsettle,
    driveSteps_of_holdActive (by exact h)]
  rfl

theorem channelPeriod_of_holdActive_settled (ht : c.target = 0) (hm : (measured count sense c).m = 0)
    (hsettle : 200 ≤ c.settle + 1) : channelPeriod p stage free count sense c =
      ⟨{ (measured count sense c).toHold with bridge := .brake }, [], windowHappening c.history ++ [.settleEnded]⟩ := by
  rw [channelPeriod_of_measured (by simp [h]) (.inr htrip),
    transitions_of_holdActive_settled (c := measured count sense c) h ht hm hsettle,
    driveSteps_of_undriven rfl]
  rfl

/-- In CUTOFF a HOLD_ACTIVE ends whatever its settle timer says. -/
theorem channelPeriod_of_holdActive_cutoff (ht : c.target = 0) : ∃ hs, ChannelHappening.signDrawn ∉ hs ∧
    channelPeriod p .cutoff free count sense c =
      ⟨{ (measured count sense c).toHold with bridge := .brake }, [], hs⟩ := by
  by_cases hsettle : (measured count sense c).m = 0 ∧ 200 ≤ c.settle + 1
  · exact ⟨_, by simp, channelPeriod_of_holdActive_settled h htrip ht hsettle.1 hsettle.2⟩
  · refine ⟨windowHappening c.history, by simp, ?_⟩
    rw [channelPeriod_of_measured (by simp [h]) (.inr htrip),
      transitions_of_holdActive_cutoff (c := measured count sense c) h ht hsettle,
      driveSteps_of_undriven rfl]
    rfl

end

/-! ## RUN and the entry to STALL (R53, R59) -/

theorem channelPeriod_of_run (h : c.state = .run) (htrip : ((min sense 45000 : Nat) : Int) ≤ p.get .faultTrip)
    (hstall : ¬(stallCondition p (withDuty p 1000 (c.target - (measured count sense c).m)
      (measured count sense c)) = true ∧ p.nat .stallTime ≤ c.stallTimer + 1)) : channelPeriod p stage free count sense c =
      ⟨running p (measured count sense c), [], windowHappening c.history⟩ := by
  rw [channelPeriod_of_measured (by simp [h]) (.inr htrip), transitions_of_run (c := measured count sense c) h,
    driveSteps_of_run (c := measured count sense c) h hstall]

theorem channelPeriod_of_run_due (h : c.state = .run) (htrip : ((min sense 45000 : Nat) : Int) ≤ p.get .faultTrip)
    (hc : stallCondition p (withDuty p 1000 (c.target - (measured count sense c).m) (measured count sense c)) = true)
    (hdue : p.nat .stallTime ≤ c.stallTimer + 1) : channelPeriod p stage free count sense c =
      ⟨stalled p free (measured count sense c),
        [(.stallOn, (withDuty p 1000 (c.target - (measured count sense c).m) (measured count sense c)).d)],
        windowHappening c.history ++ [.stallReached] ++ if c.target = 0 then [.signDrawn] else []⟩ := by
  rw [channelPeriod_of_measured (by simp [h]) (.inr htrip), transitions_of_run (c := measured count sense c) h,
    driveSteps_of_run_due (c := measured count sense c) h hc hdue]
  rfl

/-! ## STALL (R60, R61) -/

section
variable (h : c.state = .stall) (htrip : ((min sense 45000 : Nat) : Int) ≤ p.get .faultTrip)
include h htrip

theorem channelPeriod_of_stall_rested (htime : 1 < p.nat .stallTime) (hr : p.nat .stallRest ≤ c.rest + 1) :
    channelPeriod p stage free count sense c = ⟨running p ((measured count sense c).toRun c.d c.ePrev), [(.stallOff, 0)],
      windowHappening c.history ++ [.stallRestEnded]⟩ := by
  rw [channelPeriod_of_measured (by simp [h]) (.inr htrip),
    transitions_of_stall_rested (c := measured count sense c) h hr, driveSteps_of_toRun htime]
  rfl

theorem channelPeriod_of_stall_turned (htime : 1 < p.nat .stallTime) (hr : c.rest + 1 < p.nat .stallRest)
    (ht : c.target = 0 ∨ decide (0 < c.target) ≠ c.stallPositive) : channelPeriod p stage free count sense c =
      ⟨running p ((measured count sense c).toRun c.d c.ePrev), [(.stallOff, if c.target = 0 then 1 else 2)],
        windowHappening c.history⟩ := by
  rw [channelPeriod_of_measured (by simp [h]) (.inr htrip),
    transitions_of_stall_turned (c := measured count sense c) h hr ht, driveSteps_of_toRun htime]
  rfl

theorem channelPeriod_of_stall_kept (hr : c.rest + 1 < p.nat .stallRest) (h0 : c.target ≠ 0)
    (hsign : decide (0 < c.target) = c.stallPositive) : channelPeriod p stage free count sense c =
      ⟨driving (withDuty p (p.get .stallCap) (c.target - (measured count sense c).m)
        { measured count sense c with rest := c.rest + 1 }), [], windowHappening c.history⟩ := by
  rw [channelPeriod_of_measured (by simp [h]) (.inr htrip),
    transitions_of_stall_kept (c := measured count sense c) h hr h0 hsign, driveSteps_of_stall (by exact h)]
  rfl

end

/-! ## FAULT and OFF (R63, R65) -/

theorem channelPeriod_of_fault_rested (h : c.state = .fault) (htime : 1 < p.nat .stallTime) (hr : 200 ≤ c.rest + 1) :
    channelPeriod p stage free count sense c =
      ⟨if c.target = 0 then { (measured count sense c).toHold with bridge := .brake }
        else running p ((measured count sense c).toRun 0 0), [], windowHappening c.history ++ [.faultRestEnded]⟩ := by
  rw [channelPeriod_of_measured (by simp [h]) (.inl (by rw [h]; rfl)),
    transitions_of_fault_rested (c := measured count sense c) h hr]
  by_cases h0 : c.target = 0
  · rw [if_pos h0, if_pos (by exact h0), driveSteps_of_undriven rfl]
    rfl
  · rw [if_neg h0, if_neg (by exact h0), driveSteps_of_toRun htime]

theorem channelPeriod_of_fault_resting (h : c.state = .fault) (hr : c.rest + 1 < 200) :
    channelPeriod p stage free count sense c =
      ⟨{ measured count sense c with rest := c.rest + 1, bridge := .opened }, [], windowHappening c.history⟩ := by
  rw [channelPeriod_of_measured (by simp [h]) (.inl (by rw [h]; rfl)),
    transitions_of_fault_resting (c := measured count sense c) h hr,
    driveSteps_of_undriven (by simp [measured, h, ChannelState.driven])]
  simp [Channel.bridgeOf, measured, h]

theorem channelPeriod_of_off (h : c.state = .off) : channelPeriod p stage free count sense c =
    ⟨{ measured count sense c with bridge := .opened }, [], windowHappening c.history⟩ := by
  rw [channelPeriod_of_measured (by simp [h]) (.inl (by rw [h]; rfl)),
    transitions_of_off (c := measured count sense c) h,
    driveSteps_of_undriven (by simp [measured, h, ChannelState.driven])]
  simp [Channel.bridgeOf, measured, h]

end

/-! ## What no step after the fault window undoes -/

/-- The fault history stays, and what has happened stays noted. -/
def WorkKept (a b : ChannelWork) : Prop := b.ch.history = a.ch.history ∧ a.happened ⊆ b.happened

theorem WorkKept.trans {a b c : ChannelWork} : WorkKept a b → WorkKept b c → WorkKept a c :=
  fun ⟨hab, sab⟩ ⟨hbc, sbc⟩ => ⟨hbc.trans hab, List.Subset.trans sab sbc⟩

theorem restStep_kept (p : Profile) (k : ChannelWork) : WorkKept k (restStep p k) := by
  unfold restStep WorkKept
  cases k.ch.state with
  | hold | run | off => simp
  | stall => dsimp only; split <;> simp [ChannelWork.note, ChannelWork.mark, Channel.toRun]
  | fault =>
    dsimp only
    split
    · split <;> simp [ChannelWork.mark, Channel.toHold, Channel.toRun]
    · simp
  | holdActive =>
    dsimp only
    split
    · split <;> simp [ChannelWork.mark, Channel.toHold]
    · simp

theorem cutoffStep_kept (stage : Stage) (k : ChannelWork) : WorkKept k (cutoffStep stage k) := by
  unfold cutoffStep WorkKept
  split <;> simp [Channel.toHold]

theorem targetStep_kept (k : ChannelWork) : WorkKept k (targetStep k) := by
  unfold targetStep WorkKept
  cases k.ch.state with
  | run | fault | off => simp
  | hold | holdActive => dsimp only; split <;> simp [Channel.toRun]
  | stall =>
    dsimp only
    split
    · simp [ChannelWork.note, Channel.toRun]
    · split <;> simp [ChannelWork.note, Channel.toRun]

theorem creepStep_kept (p : Profile) (stage : Stage) (k : ChannelWork) : WorkKept k (creepStep p stage k) := by
  unfold creepStep WorkKept
  split <;> simp [ChannelWork.mark]

theorem regulateStep_kept (p : Profile) (k : ChannelWork) : WorkKept k (regulateStep p k) := by
  unfold regulateStep WorkKept
  split <;> simp

theorem stallStep_kept (p : Profile) (free : Bool) (k : ChannelWork) : WorkKept k (stallStep p free k) := by
  unfold stallStep WorkKept
  split
  · split
    · split
      · by_cases h0 : k.ch.target = 0 <;> simp [ChannelWork.note, ChannelWork.mark, h0]
      · simp
    · simp
  · simp

theorem transitions_kept (p : Profile) (stage : Stage) (k : ChannelWork) : WorkKept k (transitions p stage k) :=
  (((restStep_kept p k).trans (cutoffStep_kept stage _)).trans (targetStep_kept _)).trans (creepStep_kept p stage _)

theorem driveSteps_kept (p : Profile) (free : Bool) (k : ChannelWork) : WorkKept k (driveSteps p free k) :=
  ((regulateStep_kept p k).trans (stallStep_kept p free _)).trans ⟨rfl, List.Subset.refl _⟩

/-- The end of the fault window at a period without a trip, whatever else the period brings about (R64). -/
theorem channelPeriod_windowClosed {p : Profile} {stage : Stage} {free : Bool} {count : Int} {sense x : Nat} {c : Channel}
    (harmed : c.history = .armed x) (hx : 2000 ≤ x + 1)
    (htrip : c.state.driven = false ∨ ((min sense 45000 : Nat) : Int) ≤ p.get .faultTrip) :
    ChannelHappening.windowClosed ∈ (channelPeriod p stage free count sense c).happened ∧
      (channelPeriod p stage free count sense c).ch.history = .none := by
  have haged : aged c.history = .none := by simp only [aged, harmed, hx, if_true]
  have hclosed : windowHappening c.history = [.windowClosed] := by simp only [windowHappening, harmed, hx, if_true]
  rw [channelPeriod_of_no_trip (trips_eq_false htrip), haged, hclosed]
  obtain ⟨hhistory, hhappened⟩ := (transitions_kept p stage _).trans (driveSteps_kept p free _)
  exact ⟨hhappened (List.mem_singleton_self _), hhistory⟩

end Sys2Proof.Machine.WheelChannels
end

section
/-! The statements about the regulator period: each a period of the channel, put back into the part. -/

namespace Sys2Proof.Machine.WheelChannels

/-- Settles O39: a RUN that no stall ends, and the entries to RUN from HOLD and HOLD_ACTIVE. -/
theorem regulatorDrivesARunningWheel : Obligations.RegulatorDrivesARunningWheel := by
  refine ⟨?_, ?_⟩
  · intro w count sense s hp p c m e d stalling hrun htrip hstall
    exact exec_regulatorPeriod (channelPeriod_of_run hrun htrip hstall) hp (by simp)
  · intro w count sense s hp p c m e regulated running ht htime
    refine ⟨fun hhold => ?_, fun hactive htrip hstage hsettle => ?_⟩
    · exact exec_regulatorPeriod (channelPeriod_of_hold_target hhold ht htime) hp (by simp)
    · exact exec_regulatorPeriod (channelPeriod_of_holdActive_target hactive htrip ht htime hstage hsettle) hp (by simp)

/-- Settles O40: the steps of a trip on the measured channel, by whether a STALL ends. -/
theorem tripOpensOrLatchesTheWheel : Obligations.TripOpensOrLatchesTheWheel := by
  intro w count sense s hp p c cur first n hstate htrip
  have hdriven : c.state.driven = true := by
    rcases hstate with h | h | h <;> rw [h] <;> rfl
  have hfirst : c.history.latches = !first := by
    simp only [first]
    cases c.history with
    | none | latched => rfl
    | armed x => simp only [FaultHistory.latches, ← decide_not, Nat.not_le]
  have hperiod := (channelPeriod_of_trip (stage := s.supply.stage) (free := Config.stallSignOfZero s.draws) (count := count)
    hdriven htrip).trans (outputStep_tripStep hfirst)
  rw [exec_regulatorPeriod hperiod hp (by simp)]
  by_cases hst : c.state = .stall
  · simp only [measured, hst, if_true]
    rfl
  · simp only [measured, hst, if_false]
    rfl

/-- Settles O41: the period of a RUN whose stall is due, the free sign drawn at target 0. -/
theorem stallTimeCapsTheWheel : Obligations.StallTimeCapsTheWheel := by
  intro w count sense s hp p c m e d capped hrun htrip hduty hspeed hdue
  have hc : stallCondition p (withDuty p 1000 (c.target - (measured count sense c).m) (measured count sense c)) = true := by
    rw [stallCondition, Bool.and_eq_true, decide_eq_true_eq, decide_eq_true_eq]
    exact ⟨hduty, hspeed⟩
  have hperiod := channelPeriod_of_run_due (stage := s.supply.stage) (free := Config.stallSignOfZero s.draws) hrun htrip hc
    hdue
  refine ⟨if c.target = 0 then Config.stallSignOfZero s.draws else decide (0 < c.target),
    if c.target = 0 then s.draws + 1 else s.draws, fun h0 => ⟨if_neg h0, if_neg h0⟩, ?_⟩
  have hdrawn : ChannelHappening.signDrawn ∈
      windowHappening c.history ++ [.stallReached] ++ (if c.target = 0 then [.signDrawn] else []) ↔ c.target = 0 := by
    by_cases h0 : c.target = 0 <;> simp [h0]
  refine (event_eventWhen hperiod (by simp)).trans ?_
  rw [exec_regulatorPeriod_eq hperiod hp]
  simp only [hdrawn]
  rfl

/-- Settles O42: a HOLD that creeps or stays, and a HOLD_ACTIVE that goes on or ends. -/
theorem holdCreepsAndSettles : Obligations.HoldCreepsAndSettles := by
  intro w count sense s hp p c m d aged measured
  refine ⟨?_, ?_, ?_, ?_, ?_⟩
  · intro hhold ht hc hstage hlt
    simp only [d]
    rw [← regulated_of_cleared]
    exact event_of_happened (channelPeriod_of_hold_creeping hhold ht hc hstage hlt) hp (by simp) (by simp)
  · intro hhold ht hc
    exact exec_regulatorPeriod (channelPeriod_of_hold_staying hhold ht hc) hp (by simp)
  · intro hactive ht htrip hstage hsettle d'
    exact exec_regulatorPeriod (channelPeriod_of_holdActive_zero hactive htrip ht hstage hsettle) hp (by simp)
  · intro hactive ht htrip hstage
    obtain ⟨hs, hdrawn, hperiod⟩ := channelPeriod_of_holdActive_cutoff
      (free := Config.stallSignOfZero s.draws) (count := count) hactive htrip ht
    rw [← hstage] at hperiod
    exact exec_regulatorPeriod hperiod hp hdrawn
  · intro hactive ht htrip hm hsettle
    exact event_of_happened (channelPeriod_of_holdActive_settled hactive htrip ht hm hsettle) hp (by simp) (by simp)

/-- Settles O43: the ends of the rests, the periods before them, and the end of the fault window. -/
theorem restsEndInRunOrHold : Obligations.RestsEndInRunOrHold := by
  refine ⟨?_, ?_, ?_⟩
  · intro w count sense s hp p c m e aged measured running htime
    refine ⟨fun hstall htrip hrest => ?_, fun hfault hrest => ?_, fun hstall htrip hrest ht => ?_⟩
    · exact event_of_happened (channelPeriod_of_stall_rested hstall htrip htime hrest) hp (by simp) (by simp)
    · rw [← regulated_of_cleared]
      exact event_of_happened (channelPeriod_of_fault_rested hfault htime hrest) hp (by simp) (by simp)
    · exact exec_regulatorPeriod (channelPeriod_of_stall_turned hstall htrip htime hrest ht) hp (by simp)
  · intro w count sense s hp p c m e d measured put
    refine ⟨fun hstall htrip hrest ht hsign => ?_, fun hfault hrest => ?_, fun hoff => ?_⟩
    · exact exec_regulatorPeriod (channelPeriod_of_stall_kept hstall htrip hrest ht hsign) hp (by simp)
    · exact exec_regulatorPeriod (channelPeriod_of_fault_resting hfault hrest) hp (by simp)
    · exact exec_regulatorPeriod (channelPeriod_of_off hoff) hp (by simp)
  · intro w count sense x s hp harmed hx htrip
    obtain ⟨hclosed, hnone⟩ := channelPeriod_windowClosed (stage := s.supply.stage)
      (free := Config.stallSignOfZero s.draws) (count := count) harmed hx htrip
    refine ⟨_, (event_eventWhen rfl hclosed).trans (exec_regulatorPeriod_eq rfl hp),
      exec_regulatorPeriod_eq rfl hp, ?_, fun v hv => ?_, ?_, ?_, ?_⟩
    · simp [handed, hnone]
    · simp [handed, PerWheel.get_set_other _ _ hv]
    all_goals simp [handed]

end Sys2Proof.Machine.WheelChannels
end

section
/-! The measurements of a supply period and the inputs of its allocation (R51, R73, R82, R108 to R111, R122). -/

namespace Sys2Proof.Machine.WheelChannels
open MotionGeometry

/-! ## Measurements (R109, R110) -/

theorem packCurrent_eq (shunt : Int) : packCurrent shunt = if shunt < 0 then 0 else min shunt.toNat 60000 := by
  unfold packCurrent
  split <;> omega

theorem lowestCell_eq (n : Nat) (c : Cells) : lowestCell n c =
    if 4 ≤ n then min (min (min c.v1 c.v2) c.v3) c.v4 else if 3 ≤ n then min (min c.v1 c.v2) c.v3
    else min c.v1 c.v2 := by
  unfold lowestCell
  by_cases h4 : 4 ≤ n
  · have h3 : 3 ≤ n := by omega
    simp only [h4, h3, if_true]
  · simp only [h4, if_false]

/-! ## What the stage decision keeps -/

/-- The decision touches the stage, the counters and the candidate, and nothing else that was read (R107). -/
theorem supplyDecision_supply (x : Taps) (shunt : Int) (s : State) : ∃ stage down up candidate,
    (supplyDecision x shunt s).1.supply = { (readSupply x shunt s).supply with
      stage := stage, down := down, up := up, candidate := candidate } := by
  rw [supplyDecision_state rfl]
  split
  · split
    · exact ⟨_, _, _, _, rfl⟩
    · exact ⟨_, _, _, _, changeStage_supply _ _ _⟩
  · split
    · exact ⟨_, _, _, _, rfl⟩
    · split
      · exact ⟨_, _, _, _, changeStage_supply _ _ _⟩
      · split
        · exact ⟨_, _, _, _, changeStage_supply _ _ _⟩
        · exact ⟨_, _, _, _, rfl⟩

theorem winchCutoffEntry_portsKept (q : State) : portsKept q (winchCutoffEntry q) := by
  rw [winchCutoffEntry_eq]
  split
  · exact .refl _
  · split
    · exact endOp_portsKept _ _ _
    · exact .refl _

theorem changeStage_portsKept (new : Stage) (cause : StageCause) (q : State) : portsKept q (changeStage new cause q) := by
  have hrecorded : portsKept q (stageRecorded new cause q) := offer_portsKept _ q
  rw [changeStage_eq]
  split
  · exact ((hrecorded.trans (winchCutoffEntry_portsKept _)).trans (endTow_portsKept _ _)).trans (haltDrive_portsKept _ _ _)
  · exact hrecorded

theorem supplyDecision_portsKept (x : Taps) (shunt : Int) (s : State) : portsKept s (supplyDecision x shunt s).1 := by
  rw [supplyDecision_state rfl]
  split
  · split
    · exact .refl _
    · exact changeStage_portsKept _ _ (readSupply x shunt s)
  · split
    · exact .refl _
    · split
      · exact changeStage_portsKept _ _ (readSupply x shunt s)
      · split
        · exact changeStage_portsKept _ _ (readSupply x shunt s)
        · exact .refl _

/-- Settles O48: what the decision keeps of the measurements, and the allocation from the state it leaves. -/
theorem supplyPeriodMeasuresAndAllocates : Obligations.SupplyPeriodMeasuresAndAllocates := by
  intro x shunt s hp p k v1 v2 v3 v4 i v comp
  obtain ⟨stage, down, up, candidate, hsupply⟩ := supplyDecision_supply x shunt s
  obtain ⟨hsteer, hlights, hchassis, halloc⟩ := supplyDecision_kept x shunt s
  have hi : (readSupply x shunt s).supply.iPack = i := packCurrent_eq shunt
  have hv : (readSupply x shunt s).supply.vMin = v := lowestCell_eq _ _
  have hcomp : (readSupply x shunt s).supply.vComp = comp := by
    simp only [comp, ← hi, ← hv]
    rfl
  refine ⟨_, exec_supplyPeriod hp, ?_⟩
  rw [arbitrate_supply, allocationStep_supply, hsupply]
  refine ⟨rfl, rfl, hi, hv, hcomp, ?_, rfl, ?_, ?_, ?_, ?_, ?_, ?_⟩
  · simp only [← hcomp]
    rfl
  · rw [allocationStep_eq, hsteer, hlights, hchassis, halloc, winchCurrent_eq]
    have hstage : stage = (supplyDecision x shunt s).1.supply.stage := by rw [hsupply]
    simp only [channelShare_eq, hstage]
    exact ⟨rfl, rfl, rfl⟩
  · simp [hsteer]
  · simp [hlights]
  · simp [hchassis]
  · simp [clockKept, supplyDecision]
  · exact ((supplyDecision_portsKept x shunt s).trans (.refl _)).trans (arbitrate_portsKept _)

end Sys2Proof.Machine.WheelChannels
end

section
/-! The steer commands: a demand stored, and a trim written to its field (R74 to R76, R179). -/

namespace Sys2Proof.Machine.SteerCommands

open MotionGeometry

/-! ## The stored values and their flags -/

theorem clampedFlag_eq_ite (sent stored : Int) : clampedFlag sent stored = if sent = stored then 0 else 1 := by
  by_cases h : sent = stored
  · simp [clampedFlag, flagByte, h]
  · simp [clampedFlag, flagByte, h]

/-- The flag of a quantity that is cut at a limit tells whether it was above the limit. -/
theorem clampedFlag_min (sent limit : Nat) :
    clampedFlag (sent : Int) (min sent limit : Nat) = if sent ≤ limit then 0 else 1 := by
  simp only [clampedFlag_eq_ite, Nat.cast_inj, left_eq_inf]

theorem code_steerModeOf {n : Nat} (h : n ≤ 3) : (steerModeOf n).code = n := by
  interval_cases n <;> rfl

/-- The mode reply of an admitted STEER MODE is the byte sent, as R5 stops every other code (R75). -/
theorem byteOf_code_of_admitted {l : Link} {t u : Byte} {b : List Byte} {s : State}
    (h : admitted .steerMode l t u b s = true) : byteOf (steerModeOf (byteAt b 0).toNat).code = byteAt b 0 := by
  have hfits : blockFits .steerMode b = true := by
    simp only [admitted, Bool.and_eq_true] at h
    obtain ⟨⟨⟨⟨-, hblock⟩, -⟩, -⟩, -⟩ := h
    exact hblock
  have hmode : (byteAt b 0).toNat ≤ 3 := by
    simp only [blockFits, enumsFit, Bool.and_eq_true, decide_eq_true_eq] at hfits
    obtain ⟨-, hmode⟩ := hfits
    exact hmode
  rw [code_steerModeOf hmode]
  simp [byteOf]

/-- A stored field changes the profile, and a value other than the one held makes the image differ (R177, R179). -/
theorem storeField_eq (f : Field) (v : Int) (s : State) : storeField f v s = { s with
    chassis := { s.chassis with
      profile := s.chassis.profile.set f v
      unsaved := s.chassis.unsaved || decide (s.chassis.profile.get f ≠ v)
      changedSince := s.chassis.changedSince || decide (s.chassis.profile.get f ≠ v) } } := by
  by_cases h : s.chassis.profile.get f = v
  · simp [storeField, setChassis, h]
  · simp [storeField, markUnsaved, setChassis, h]

/-! ## The commands -/

/-- A steer command that mutates and is answered GOOD makes its sender last commander of STEER (R8, R12). -/
theorem exec_of_good {i : Instr} {n : CmdName} {l : Link} {t u : Byte} {b reply : List Byte} {s r : State}
    (hi : instrFrame i = some (l, ⟨t, u, n.row.code, b⟩)) (hc : n.row.cls = .mutating) (hv : n.row.target = some .steer)
    (h : admitted n l t u b s = true)
    (hr : runBody n l ⟨t, u, n.row.code, b⟩ (taken l ⟨t, u, n.row.code, b⟩ s) = .good reply r) :
    exec i s = .next (answered l t .good reply (commanded .steer l r)) := by
  rw [exec_given hi h, hr, given_good_of_mutating hc hv]

theorem steerSetBody_eq (l : Link) (c : Command) (s : State) :
    let v := clampInt (-1000) 1000 (s16At c.params 0)
    steerSetBody l c s = .good (bytes2 v ++ [if s16At c.params 0 = v then 0 else 1])
      { s with steer := { s.steer with s := v } } := by
  simp only [steerSetBody, clampedFlag_eq_ite]
  rfl

theorem steerModeBody_eq (l : Link) (c : Command) (s : State) :
    let r := min (u16At c.params 1) 1000
    steerModeBody l c s = .good ([byteOf (steerModeOf (byteAt c.params 0).toNat).code] ++ bytes2 r
        ++ [if u16At c.params 1 ≤ 1000 then 0 else 1])
      { s with steer := { s.steer with mode := steerModeOf (byteAt c.params 0).toNat, r := r } } := by
  simp only [steerModeBody, clampedFlag_min]
  rfl

theorem steerTrimBody_eq (l : Link) (c : Command) (s : State) :
    let v := clampInt (-150) 150 (s16At c.params 1)
    steerTrimBody l c s = .good (bytes2 v ++ [if s16At c.params 1 = v then 0 else 1])
      (storeField (trimField (byteAt c.params 0)) v s) := by
  simp only [steerTrimBody, clampedFlag_eq_ite]

/-- Settles O23: each body as the demand or the field it stores, the sender then made last commander. -/
theorem steerCommandsStoreTheDemand : Obligations.SteerCommandsStoreTheDemand := by
  refine ⟨fun l t u b s => ⟨fun h => ?_, fun h => ?_⟩, fun l t u b s h => ?_⟩
  · exact exec_of_good rfl rfl rfl h (steerSetBody_eq l _ _)
  · have hbody := steerModeBody_eq l ⟨t, u, 0x31, b⟩ (taken l ⟨t, u, 0x31, b⟩ s)
    simp only [byteOf_code_of_admitted h] at hbody
    exact exec_of_good rfl rfl rfl h hbody
  · have hbody := steerTrimBody_eq l ⟨t, u, 0x32, b⟩ (taken l ⟨t, u, 0x32, b⟩ s)
    simp only [storeField_eq] at hbody
    exact exec_of_good rfl rfl rfl h hbody

end Sys2Proof.Machine.SteerCommands
end

section
/-! The commands of the winch (R87 to R89, R92, R97). -/

namespace Sys2Proof.Machine.WinchBlock

open MotionGeometry SteerCommands

/-! ## What a command does to the bridge and the load timer (R87) -/

theorem engaged_eq (w : Winch) : engaged w =
    if w.state = .free ∨ w.state = .idle ∨ w.state = .loadHold then .brake else w.bridge := by
  cases h : w.state <;> simp [engaged, h]

theorem atPayoutLimit_iff (s : State) : atPayoutLimit s = true ↔
    s.winch.referenced = true ∧ s.chassis.profile.get .payoutLimit ≤ payoutNow s := by
  simp [atPayoutLimit]

theorem lineDirOf_eq_inward (b : Byte) : lineDirOf b = .inward ↔ b = 0 := by
  simp [lineDirOf]

theorem lineDirOf_eq_outward (b : Byte) : lineDirOf b = .outward ↔ b ≠ 0 := by
  simp [lineDirOf]

/-! ## WINCH RUN, WINCH STOP and WINCH FREE (R87, R88, R97) -/

theorem bytes2_zero : bytes2 0 = [0, 0] := by decide

/-- The rows of WINCH RUN, by the first that applies (R87). -/
theorem winchRunBody_eq (l : Link) (c : Command) (s : State) :
    let v := min (u16At c.params 1) 1000
    let flag : Byte := if u16At c.params 1 ≤ 1000 then 0 else 1
    winchRunBody l c s =
      if byteAt c.params 0 = 0 ∧ s.winch.state = .loadHold then .check (.limit .loadHold) (some s.winch.current)
      else if byteAt c.params 0 ≠ 0 ∧ s.winch.referenced = true ∧
          s.chassis.profile.get .payoutLimit ≤ payoutNow s then
        .check (.limit .payoutMax) (some (payoutNow s))
      else if v = 0 then .good ([0, 0, 0] ++ [flag]) (setWinch (runToIdle s.winch) s)
      else if byteAt c.params 0 = 0 then
        .good ([1] ++ bytes2 v ++ [flag]) (setWinch (enterRun .inward v s.winch) s)
      else .good ([2] ++ bytes2 v ++ [flag]) (setWinch (enterRun .outward v s.winch) s) := by
  simp only [winchRunBody, runReply, lineDirOf_eq_inward, lineDirOf_eq_outward, atPayoutLimit_iff, clampedFlag_min]
  refine ite_congr rfl (fun _ => rfl) fun _ => ite_congr rfl (fun _ => rfl) fun _ => ?_
  by_cases hv : min (u16At c.params 1) 1000 = 0
  · simp only [if_pos hv, runToIdle, Nat.cast_zero, bytes2_zero]
    rfl
  · by_cases hd : byteAt c.params 0 = 0
    · simp only [if_neg hv, if_pos hd, (lineDirOf_eq_inward _).mpr hd]
      rfl
    · simp only [if_neg hv, if_neg hd, (lineDirOf_eq_outward _).mpr hd]
      rfl

/-- Settles O25: WINCH RUN by the rows of its table, WINCH STOP as the operation's end, WINCH FREE by its
settings. -/
theorem winchRunStopAndFree : Obligations.WinchRunStopAndFree := by
  refine ⟨fun l t u b s h => ?_, fun l t u b s => ⟨fun h => exec_given rfl h, fun h => exec_given rfl h⟩⟩
  intro r w v flag bridge mm
  have hgiven : exec (.winchRun l t u b) s =
      .next (given .winchRun l t u r (winchRunBody l ⟨t, u, 0x40, b⟩ r)) := exec_given rfl h
  rw [hgiven, winchRunBody_eq]
  simp only [apply_ite (given .winchRun l t u r), given_good_of_mutating (n := .winchRun) (v := .winch) rfl rfl,
    given_check, runToIdle, enterRun, engaged_eq]
  rfl

/-! ## WINCH TO LENGTH and WINCH REFERENCE (R89, R92) -/

theorem given_accepted_of_winch {n : CmdName} (hc : n.row.cls = .mutating) (hv : n.row.target = some .winch) (l : Link)
    (tag unit : Byte) (r : State) (kind : LongKind) (reply : List Byte) (t : State) :
    given n l tag unit r (.accepted kind reply t) =
      answered l tag .accepted reply (commanded .winch l (slotFilled .winch kind l tag t)) := by
  simp only [given, markCommander, fillOp, hc, hv]
  rfl

theorem moveDirTo_eq (target : Nat) (s : State) :
    moveDirTo target s = if decide ((target : Int) ≤ payoutNow s) = true then .inward else .outward := by
  simp only [moveDirTo, decide_eq_true_eq]

theorem moveDirTo_eq_inward (target : Nat) (s : State) :
    moveDirTo target s = .inward ↔ decide ((target : Int) ≤ payoutNow s) = true := by
  simp [moveDirTo]

theorem byteOf_moveDirTo (target : Nat) (s : State) :
    byteOf (lineDirCode (moveDirTo target s)) = if decide ((target : Int) ≤ payoutNow s) = true then 0 else 1 := by
  rw [moveDirTo_eq]
  split <;> rfl

/-- WINCH TO LENGTH by the rows of its table, the direction as whether it is inward (R89). -/
theorem winchToLengthBody_eq (l : Link) (c : Command) (s : State) :
    let target := min (u16At c.params 0) (s.chassis.profile.nat .payoutLimit)
    let asked := min (u16At c.params 2) 1000
    let inward := decide ((target : Int) ≤ payoutNow s)
    winchToLengthBody l c s =
      if s.supply.stage = .cutoff then .check (.notReady .cutoff) none
      else if s.winch.referenced = false then .check (.notReady .unreferenced) none
      else if inward = true ∧ s.winch.state = .loadHold then .check (.limit .loadHold) (some s.winch.current)
      else .accepted .move (bytes2 target ++ [if inward then 0 else 1, if u16At c.params 0 = target then 0 else 1])
        (setWinch { s.winch with
          state := .move
          runSpeed := if asked = 0 then s.chassis.profile.nat .slowSpeed else asked
          moveTarget := some target
          moveDir := some (if inward then .inward else .outward)
          note := .none
          loadTimer := 0
          bridge := engaged s.winch } s) := by
  simp only [winchToLengthBody, inCutoff, decide_eq_true_eq (p := s.supply.stage = .cutoff), moveDirTo_eq_inward,
    byteOf_moveDirTo, clampedFlag_eq_ite, Nat.cast_inj]
  simp only [moveDirTo_eq]

/-- Settles O26: the refusals and the start of each operation, in the order of the bodies. -/
theorem winchOperationsStart : Obligations.WinchOperationsStart := by
  refine ⟨fun l t u b s h => ?_, fun l t u b s h => ?_⟩
  · intro r w p target asked inward
    have hgiven : exec (.winchToLength l t u b) s =
        .next (given .winchToLength l t u r (winchToLengthBody l ⟨t, u, 0x42, b⟩ r)) := exec_given rfl h
    rw [hgiven]
    simp only [winchToLengthBody_eq, engaged_eq, apply_ite (given .winchToLength l t u r),
      given_accepted_of_winch (n := .winchToLength) rfl rfl, given_check]
    rfl
  · intro r w
    have hgiven : exec (.winchReference l t u b) s =
        .next (given .winchReference l t u r (winchReferenceBody l ⟨t, u, 0x43, b⟩ r)) := exec_given rfl h
    rw [hgiven]
    simp only [winchReferenceBody, inCutoff, decide_eq_true_eq, engaged_eq, apply_ite (given .winchReference l t u r),
      given_accepted_of_winch (n := .winchReference) rfl rfl, given_check]
    rfl

end Sys2Proof.Machine.WinchBlock
end

section
/-! The winch's counts and its periods (R80 to R86, R90 to R95, R101). -/

namespace Sys2Proof.Machine.WinchBlock

/-! ## Ended operations and notices under a replaced winch -/

/-- An operation's end does not look at the winch, nor change it. -/
theorem setWinch_endOp (x : Winch) (u : UnitId) (r : OpResult) (s : State) :
    setWinch x (endOp u r s) = endOp u r (setWinch x s) := by
  cases h : s.disp.op u with
  | none => rw [endOp_of_none h, endOp_of_none (s := setWinch x s) h]
  | some op =>
    rw [endOp_of_some h, endOp_of_some (s := setWinch x s) h]
    cases howner : op.owner <;> simp only [handDone, howner] <;> rfl

/-! ## The end of a MOVE (R91) -/

/-- A MOVE has reached its target when the payout is at it or beyond it in the move's direction (R91). -/
theorem moveReached_iff {s : State} {target : Nat} {d : LineDir} (ht : s.winch.moveTarget = some target)
    (hd : s.winch.moveDir = some d) : moveReached s = true ↔
      d = .inward ∧ payoutNow s ≤ target ∨ d = .outward ∧ (target : Int) ≤ payoutNow s := by
  cases d <;> simp [moveReached, ht, hd]

theorem moveEndCheck_of_other {s : State} (h : s.winch.state ≠ .move) : moveEndCheck s = s := by
  simp [moveEndCheck, h]

theorem moveEndCheck_of_short {s : State} (h : ¬moveReached s = true) : moveEndCheck s = s := by
  simp [moveEndCheck, h]

theorem moveEndCheck_of_reached {s : State} (hs : s.winch.state = .move) (h : moveReached s = true) :
    moveEndCheck s = endWinchOp .good s := by
  simp [moveEndCheck, hs, h]

/-! ## The drum count (R80, R84, R91) -/

theorem countAfter_eq (dir : LineDir) (c : Int) :
    countAfter dir c = if dir = .outward then min (c + 1) 2147483647 else max (c - 1) (-2147483648) := by
  cases dir <;> rfl

theorem payoutChecks_of_other {s : State} (hm : s.winch.state ≠ .move) (hr : s.winch.state ≠ .runOut) :
    payoutChecks s = s := by
  cases h : s.winch.state <;> simp_all [payoutChecks]

theorem payoutChecks_of_runOut {s : State} (h : s.winch.state = .runOut) : payoutChecks s = payoutLimitStop s := by
  simp [payoutChecks, h]

/-- In MOVE the payout limit is looked at after the end check, and only outward (R84, R91). -/
theorem payoutChecks_of_move {s : State} (h : s.winch.state = .move) : payoutChecks s =
    if (moveEndCheck s).winch.state = .move ∧ (moveEndCheck s).winch.moveDir = some .outward then
      payoutLimitStop (moveEndCheck s)
    else moveEndCheck s := by
  simp [payoutChecks, h]

theorem payoutLimitStop_of_below {s : State} (h : payoutNow s < s.chassis.profile.get .payoutLimit) :
    payoutLimitStop s = s := by
  simp [payoutLimitStop, Int.not_le.mpr h]

/-- A MOVE whose target does not exceed L_max is not stopped by the payout limit: at the limit it has reached its target
(R84, R90, R91). -/
theorem payoutChecks_of_short {s : State} {target : Nat} {d : LineDir} (hs : s.winch.state = .move)
    (ht : s.winch.moveTarget = some target) (hd : s.winch.moveDir = some d)
    (hlimit : d = .outward → (target : Int) ≤ s.chassis.profile.get .payoutLimit) (h : ¬moveReached s = true) :
    payoutChecks s = s := by
  rw [payoutChecks_of_move hs, moveEndCheck_of_short h]
  split
  · next hout =>
    obtain rfl : d = .outward := Option.some.inj (hd.symm.trans hout.2)
    refine payoutLimitStop_of_below ?_
    have hbelow : ¬(target : Int) ≤ payoutNow s := fun hle => h ((moveReached_iff ht hd).mpr (.inr ⟨rfl, hle⟩))
    have := hlimit rfl
    omega
  · rfl

theorem payoutChecks_of_reached {s : State} (hs : s.winch.state = .move) (h : moveReached s = true) :
    payoutChecks s = endWinchOp .good s := by
  rw [payoutChecks_of_move hs, moveEndCheck_of_reached hs h]
  simp [Winch.toIdle]

/-- L_max of a profile in range is not negative (R175). -/
theorem payoutLimit_natCast {p : Profile} (h : profileFits p = true) :
    ((p.nat .payoutLimit : Nat) : Int) = p.get .payoutLimit := by
  obtain ⟨hfields, -⟩ := (profileFits_iff p).mp h
  have hrange : 500 ≤ p.get .payoutLimit ∧ p.get .payoutLimit ≤ 30000 := by
    have hfit := hfields .payoutLimit
    simp only [fieldFits, Bool.and_eq_true, decide_eq_true_eq] at hfit
    exact hfit
  exact Int.toNat_of_nonneg (by omega)

theorem exec_drumCount {dir : LineDir} {s : State} (hp : s.powered = true) :
    exec (.drumCount dir) s = .next (arbitrate (payoutChecks
      (setWinch { s.winch with count := countAfter dir s.winch.count } s))) :=
  event_powered (f := drumCount dir) hp

/-- Settles O44: the count, then the payout checks of the winch's state. -/
theorem drumCountMovesThePayout : Obligations.DrumCountMovesThePayout := by
  intro dir s hp k mm counted stopped
  have hexec : exec (.drumCount dir) s = .next (arbitrate (payoutChecks (setWinch counted s))) := by
    rw [exec_drumCount hp, countAfter_eq]
  rw [hexec]
  refine ⟨fun hm hr => ?_, fun hr => ?_, fun target d hm ht hd hfits hlimit => ?_⟩
  · rw [payoutChecks_of_other (s := setWinch counted s) hm hr]
    rfl
  · rw [payoutChecks_of_runOut (s := setWinch counted s) hr]
    rfl
  · have hreached := moveReached_iff (s := setWinch counted s) ht hd
    by_cases h : d = .inward ∧ mm ≤ target ∨ d = .outward ∧ (target : Int) ≤ mm
    · rw [if_pos h, payoutChecks_of_reached (s := setWinch counted s) hm (hreached.mpr h)]
      rfl
    · have hbound (hout : d = .outward) : (target : Int) ≤ s.chassis.profile.get .payoutLimit := by
        rw [← payoutLimit_natCast hfits]
        exact Int.ofNat_le.mpr (hlimit hout)
      rw [if_neg h, payoutChecks_of_short (s := setWinch counted s) hm ht hd hbound (h ∘ hreached.mp)]
      rfl

/-! ## Step 3 of the period: the ends of a REFERENCE (R93, R94) -/

/-- The timer of the reference point after a period (R93). -/
def detectionTimer (s : State) : Nat :=
  if s.chassis.profile.nat .referenceCurrent < s.winch.current then s.winch.refTimer + 10 else 0

theorem referenceStep_of_other {s : State} (h : s.winch.state ≠ .reference) : referenceStep s = (s, []) := by
  simp [referenceStep, h]

theorem referenceStep_of_detected {s : State} (hs : s.winch.state = .reference) (h : 50 ≤ detectionTimer s) :
    referenceStep s =
      (endWinchOp .good (setWinch { s.winch with count := 0, prevCount := 0, referenced := true } s),
        [.referenceTaken]) := by
  unfold detectionTimer at h
  simp only [referenceStep, if_pos hs, if_pos h]

theorem referenceStep_of_timeout {s : State} {op : LongOp} (hs : s.winch.state = .reference)
    (h : detectionTimer s < 50) (hop : s.disp.winchOp = some op) (ht : 20000 ≤ s.now - op.start) :
    referenceStep s = (endWinchOp .timeout s, [.referenceTimedOut]) := by
  unfold detectionTimer at h
  simp only [referenceStep, if_pos hs, if_neg (Nat.not_le.mpr h), hop, if_pos ht]

theorem referenceStep_of_running {s : State} (hs : s.winch.state = .reference) (h : detectionTimer s < 50)
    (ht : ∀ op, s.disp.winchOp = some op → s.now - op.start < 20000) :
    referenceStep s = (setWinch { s.winch with refTimer := detectionTimer s } s, []) := by
  unfold detectionTimer at h ⊢
  simp only [referenceStep, if_pos hs, if_neg (Nat.not_le.mpr h)]
  cases hop : s.disp.winchOp with
  | none => simp
  | some op => simp [ht op hop]

/-! ## Step 4 of the period: the load timer and LOAD_HOLD (R95) -/

/-- The load timer after a period in a state in which it runs (R95). -/
def loadTimerAfter (s : State) : Nat :=
  if s.chassis.profile.nat .loadCurrent < s.winch.current then s.winch.loadTimer + 10 else 0

theorem loadTimed_iff (w : Winch) : w.loadTimed = true ↔
    w.state = .runIn ∨ w.state = .reference ∨ w.state = .move ∧ w.moveDir = some .inward := by
  cases h : w.state <;> simp [Winch.loadTimed, h]

theorem loadStep_of_untimed {s : State} (h : ¬s.winch.loadTimed = true) :
    loadStep s = (setWinch { s.winch with loadTimer := 0 } s, []) := by
  simp only [loadStep, if_neg h]

theorem loadStep_of_below {s : State} (h : s.winch.loadTimed = true) (ht : loadTimerAfter s < 100) :
    loadStep s = (setWinch { s.winch with loadTimer := loadTimerAfter s } s, []) := by
  unfold loadTimerAfter at ht ⊢
  simp only [loadStep, if_pos h, if_neg (Nat.not_le.mpr ht)]

theorem loadStep_of_reached {s : State} (h : s.winch.loadTimed = true) (ht : 100 ≤ loadTimerAfter s) :
    let held := offer (.winch .load s.winch.current)
      (setWinch { s.winch.toIdle with state := .loadHold, note := .loadHold } s)
    loadStep s = (if s.winch.state = .move then endOp .winch .loadLimit held else held, [.loadHeld]) := by
  unfold loadTimerAfter at ht
  simp only [loadStep, if_pos h, if_pos ht]

/-! ## Steps 5 and 6 of the period: duty and output (R83, R85, R86) -/

/-- The duty of an inward haul: the run speed, cut in the slow zone, under g_W (R85, R86). -/
def inwardDuty (s : State) : Int :=
  ((if s.winch.referenced = false ∨ payoutNow s < s.chassis.profile.get .slowZone then
      min s.winch.runSpeed (s.chassis.profile.nat .slowSpeed)
    else s.winch.runSpeed) * s.alloc.gW / 1024 : Nat)

theorem slowed_iff (s : State) : slowed s = true ↔
    s.winch.referenced = false ∨ payoutNow s < s.chassis.profile.get .slowZone := by
  simp [slowed]

theorem winchDuty_of_hauling {s : State}
    (h : s.winch.state = .runIn ∨ s.winch.state = .move ∧ s.winch.moveDir = some .inward) :
    winchDuty s = inwardDuty s := by
  rcases h with h | ⟨h, hd⟩
  · simp only [winchDuty, effectiveSpeed, h, slowed_iff]
    rfl
  · simp only [winchDuty, effectiveSpeed, h, hd, slowed_iff]
    rfl

theorem winchDuty_of_paying {s : State}
    (h : s.winch.state = .runOut ∨ s.winch.state = .move ∧ s.winch.moveDir = some .outward) :
    winchDuty s = -((s.winch.runSpeed * s.alloc.gW / 1024 : Nat) : Int) := by
  rcases h with h | ⟨h, hd⟩
  · simp only [winchDuty, effectiveSpeed, h]
  · simp [winchDuty, effectiveSpeed, h, hd]

theorem winchDuty_of_reference {s : State} (h : s.winch.state = .reference) :
    winchDuty s = ((s.chassis.profile.nat .referenceSpeed * s.alloc.gW / 1024 : Nat) : Int) := by
  simp only [winchDuty, effectiveSpeed, h]

theorem winchDuty_of_resting {s : State}
    (h : s.winch.state = .idle ∨ s.winch.state = .loadHold ∨ s.winch.state = .free) :
    winchDuty s = 0 := by
  rcases h with h | h | h <;> simp [winchDuty, effectiveSpeed, h]

/-- The drum as the end of a period leaves it, once the duty and the output are known. -/
theorem dutyStep_eq {s : State} {d : Int} {b : Bridge} (hd : winchDuty s = d) (hb : winchBridge s.winch.state d = b) :
    dutyStep s = setWinch { s.winch with duty := d, bridge := b, gUsed := s.alloc.gW } s := by
  rw [dutyStep, hd, hb]

/-! ## The whole period (R81) -/

/-- The state after steps 1 and 2 of a period. -/
def measuredState (m : Nat) (s : State) : State := setWinch (winchMeasure m s.winch) s

theorem winchPeriod_eq (m : Nat) (s : State) :
    let r := referenceStep (measuredState m s)
    let q := loadStep (moveEndCheck r.1)
    winchPeriod m s = (dutyStep q.1, r.2 ++ q.2) := rfl

theorem exec_winchPeriod {m : Nat} {s : State} (hp : s.powered = true) :
    exec (.winchPeriod m) s = .next (arbitrate (winchPeriod m s).1) :=
  event_powered (f := fun s => (winchPeriod m s).1) hp

/-- A period outside REFERENCE that ends no MOVE, in a state without the load timer. -/
theorem winchPeriod_of_untimed {m : Nat} {s : State} {d : Int} {b : Bridge} (hs : s.winch.state ≠ .reference)
    (hcheck : moveEndCheck (measuredState m s) = measuredState m s) (hload : ¬s.winch.loadTimed = true)
    (hd : winchDuty (setWinch { winchMeasure m s.winch with loadTimer := 0 } s) = d)
    (hb : winchBridge s.winch.state d = b) :
    (winchPeriod m s).1 = setWinch { winchMeasure m s.winch with
      loadTimer := 0, duty := d, bridge := b, gUsed := s.alloc.gW } s := by
  simp only [winchPeriod_eq, referenceStep_of_other (s := measuredState m s) hs, hcheck,
    loadStep_of_untimed (s := measuredState m s) hload]
  exact dutyStep_eq hd hb

/-- A period outside REFERENCE that ends no MOVE, in a state with the load timer, short of LOAD_HOLD. -/
theorem winchPeriod_of_hauling {m : Nat} {s : State}
    (hs : s.winch.state = .runIn ∨ s.winch.state = .move ∧ s.winch.moveDir = some .inward)
    (hcheck : moveEndCheck (measuredState m s) = measuredState m s)
    (ht : loadTimerAfter (measuredState m s) < 100) :
    (winchPeriod m s).1 = setWinch { winchMeasure m s.winch with
      loadTimer := loadTimerAfter (measuredState m s), duty := inwardDuty s, bridge := .driven (inwardDuty s),
      gUsed := s.alloc.gW } s := by
  have hother : s.winch.state ≠ .reference := by
    rcases hs with h | ⟨h, -⟩ <;> simp [h]
  have hload : s.winch.loadTimed = true := (loadTimed_iff _).mpr (hs.imp_right .inr)
  have hbridge : winchBridge s.winch.state (inwardDuty s) = .driven (inwardDuty s) := by
    rcases hs with h | ⟨h, -⟩ <;> simp [h, winchBridge]
  simp only [winchPeriod_eq, referenceStep_of_other (s := measuredState m s) hother, hcheck,
    loadStep_of_below (s := measuredState m s) hload ht]
  exact dutyStep_eq (winchDuty_of_hauling hs) hbridge

/-- A period of a drum at rest (R83, R86). -/
theorem winchPeriod_of_resting {m : Nat} {s : State} {b : Bridge}
    (hs : s.winch.state = .idle ∨ s.winch.state = .loadHold ∨ s.winch.state = .free)
    (hb : winchBridge s.winch.state 0 = b) :
    (winchPeriod m s).1 = setWinch { winchMeasure m s.winch with
      loadTimer := 0, duty := 0, bridge := b, gUsed := s.alloc.gW } s := by
  have hother : s.winch.state ≠ .reference ∧ s.winch.state ≠ .move ∧ ¬s.winch.loadTimed = true := by
    rcases hs with h | h | h <;> simp [h, Winch.loadTimed]
  obtain ⟨href, hmove, hload⟩ := hother
  exact winchPeriod_of_untimed href (moveEndCheck_of_other (s := measuredState m s) hmove) hload
    (winchDuty_of_resting hs) hb

/-! ### An operation that ends in the period -/

theorem loadStep_endWinchOp (r : OpResult) (s : State) : loadStep (endWinchOp r s) = (endWinchOp r s, []) := by
  have huntimed : ¬(endWinchOp r s).winch.loadTimed = true := by
    rw [endWinchOp_winch]
    exact Bool.false_ne_true
  rw [loadStep_of_untimed huntimed, endWinchOp_winch, endWinchOp, setWinch_endOp]
  rfl

/-- The rest of a period in which an operation ended: the drum braked with its duty 0. -/
theorem dutyStep_endWinchOp (r : OpResult) (s : State) : dutyStep (endWinchOp r s) =
    endOp .winch r (setWinch { s.winch.toIdle with duty := 0, gUsed := s.alloc.gW } s) := by
  have hrest : (endWinchOp r s).winch.state = .idle := by
    rw [endWinchOp_winch]
    rfl
  have halloc : (endWinchOp r s).alloc = s.alloc := by simp
  have hbridge : winchBridge (endWinchOp r s).winch.state 0 = .brake := by rw [hrest]; rfl
  rw [dutyStep_eq (winchDuty_of_resting (.inl hrest)) hbridge, endWinchOp_winch, halloc, endWinchOp, setWinch_endOp]
  rfl

theorem winchPeriod_of_moveEnd {m : Nat} {s : State} (hs : s.winch.state = .move)
    (h : moveReached (measuredState m s) = true) :
    (winchPeriod m s).1 = endOp .winch .good
      (setWinch { (winchMeasure m s.winch).toIdle with duty := 0, gUsed := s.alloc.gW } s) := by
  have hother : (measuredState m s).winch.state ≠ .reference := fun href => by
    cases hs.symm.trans href
  simp only [winchPeriod_eq, referenceStep_of_other hother, moveEndCheck_of_reached (s := measuredState m s) hs h,
    loadStep_endWinchOp, dutyStep_endWinchOp]
  rfl

/-- A REFERENCE that step 3 ends: the rest of the period brakes the drum and brings nothing else about. -/
theorem winchPeriod_of_referenceEnd {m : Nat} {s t : State} {r : OpResult} {x : WinchHappening}
    (h : referenceStep (measuredState m s) = (endWinchOp r t, [x])) :
    winchPeriod m s =
      (endOp .winch r (setWinch { t.winch.toIdle with duty := 0, gUsed := t.alloc.gW } t), [x]) := by
  have hcheck : moveEndCheck (endWinchOp r t) = endWinchOp r t := by
    refine moveEndCheck_of_other ?_
    rw [endWinchOp_winch]
    exact WinchState.noConfusion
  simp only [winchPeriod_eq, h, hcheck, loadStep_endWinchOp, dutyStep_endWinchOp, List.append_nil]

theorem winchPeriod_of_referenceRunning {m : Nat} {s : State} (hs : s.winch.state = .reference)
    (h : detectionTimer (measuredState m s) < 50) (hload : loadTimerAfter (measuredState m s) < 100)
    (ht : ∀ op, s.disp.winchOp = some op → s.now - op.start < 20000) :
    let d : Int := (s.chassis.profile.nat .referenceSpeed * s.alloc.gW / 1024 : Nat)
    (winchPeriod m s).1 = setWinch { winchMeasure m s.winch with
      refTimer := detectionTimer (measuredState m s), loadTimer := loadTimerAfter (measuredState m s), duty := d,
      bridge := .driven d, gUsed := s.alloc.gW } s := by
  intro d
  let q := measuredState m s
  let t := setWinch { q.winch with refTimer := detectionTimer q } q
  have href : t.winch.state = .reference := hs
  have hcheck : moveEndCheck t = t := moveEndCheck_of_other (by simp [href])
  have hstep : loadStep t = (setWinch { t.winch with loadTimer := loadTimerAfter t } t, []) :=
    loadStep_of_below ((loadTimed_iff _).mpr (.inr (.inl href))) hload
  simp only [winchPeriod_eq, referenceStep_of_running (s := measuredState m s) hs h ht]
  rw [hcheck, hstep]
  exact dutyStep_eq (winchDuty_of_reference hs) (congrArg (winchBridge · d) hs)

/-! ### The entry to LOAD_HOLD (R95, R101) -/

/-- The drum as the entry to LOAD_HOLD leaves it at the end of the period. -/
def heldWinch (m : Nat) (s : State) : Winch :=
  { (winchMeasure m s.winch).toIdle with state := .loadHold, note := .loadHold, duty := 0, gUsed := s.alloc.gW }

theorem dutyStep_of_loadHold {s : State} (h : s.winch.state = .loadHold) :
    dutyStep s = setWinch { s.winch with duty := 0, bridge := .brake, gUsed := s.alloc.gW } s :=
  dutyStep_eq (winchDuty_of_resting (.inr (.inl h))) (congrArg (winchBridge · 0) h)

theorem dutyStep_endOp_of_loadHold {u : UnitId} {r : OpResult} {s : State} (h : s.winch.state = .loadHold) :
    dutyStep (endOp u r s) = endOp u r (dutyStep s) := by
  rw [dutyStep_of_loadHold h, dutyStep_of_loadHold (s := endOp u r s) (by simpa using h), setWinch_endOp, endOp_winch,
    endOp_alloc]

theorem winchPeriod_of_loadHold {m : Nat} {s : State}
    (hs : s.winch.state = .runIn ∨ s.winch.state = .move ∧ s.winch.moveDir = some .inward)
    (hcheck : moveEndCheck (measuredState m s) = measuredState m s)
    (ht : 100 ≤ loadTimerAfter (measuredState m s)) :
    let held := offer (.winch .load (min m 40000 : Nat)) (setWinch (heldWinch m s) s)
    winchPeriod m s = (if s.winch.state = .move then endOp .winch .loadLimit held else held, [.loadHeld]) := by
  intro held
  have hother : s.winch.state ≠ .reference := by
    rcases hs with h | ⟨h, -⟩ <;> simp [h]
  have hload : s.winch.loadTimed = true := (loadTimed_iff _).mpr (hs.imp_right .inr)
  simp only [winchPeriod_eq, referenceStep_of_other (s := measuredState m s) hother, hcheck,
    loadStep_of_reached (s := measuredState m s) hload ht]
  refine Prod.ext ?_ rfl
  by_cases hm : s.winch.state = .move
  · have hm' : (measuredState m s).winch.state = .move := hm
    simp only [if_pos hm, if_pos hm']
    exact (dutyStep_endOp_of_loadHold rfl).trans (congrArg (endOp .winch .loadLimit) (dutyStep_of_loadHold rfl))
  · have hm' : ¬(measuredState m s).winch.state = .move := hm
    simp only [if_neg hm, if_neg hm']
    exact dutyStep_of_loadHold rfl

/-! ## The statements about the period -/

theorem moveEndCheck_measured_of_runIn {m : Nat} {s : State} (h : s.winch.state = .runIn) :
    moveEndCheck (measuredState m s) = measuredState m s :=
  moveEndCheck_of_other (s := measuredState m s) (by simp [measuredState, winchMeasure, h])

/-- A MOVE inward above its target, or outward below it, has not reached it (R91). -/
theorem moveEndCheck_measured_of_short {m : Nat} {s : State} {target : Nat} {d : LineDir}
    (hd : s.winch.moveDir = some d) (ht : s.winch.moveTarget = some target)
    (hin : d = .inward → (target : Int) < payoutNow s) (hout : d = .outward → payoutNow s < (target : Int)) :
    moveEndCheck (measuredState m s) = measuredState m s := by
  refine moveEndCheck_of_short fun hreached => ?_
  rcases (moveReached_iff (s := measuredState m s) ht hd).mp hreached with ⟨hdir, hle⟩ | ⟨hdir, hle⟩
  · exact absurd (hin hdir) (Int.not_lt.mpr hle)
  · exact absurd (hout hdir) (Int.not_lt.mpr hle)

/-- Settles O45: each clause is the period's lemma for the winch's state. -/
theorem winchPeriodDrivesTheDrum : Obligations.WinchPeriodDrivesTheDrum := by
  intro m s hp p w mm timer slow inward outward measured
  rw [exec_winchPeriod hp]
  have hcheck (hm : w.state ≠ .move) : moveEndCheck (measuredState m s) = measuredState m s :=
    moveEndCheck_of_other (s := measuredState m s) hm
  refine ⟨fun hs ht => ?_, fun hs => ?_, fun hs => ?_, fun hs => ?_, fun target hs hd htarget hmm ht => ?_,
    fun target hs hd htarget hmm => ?_, fun target d hs hd htarget hmm => ?_, ?_⟩
  · rw [winchPeriod_of_hauling (.inl hs) (hcheck (by simp [hs])) ht]
    rfl
  · rw [winchPeriod_of_untimed (by simp [w, hs]) (hcheck (by simp [hs])) (by simp [loadTimed_iff, w, hs])
      (winchDuty_of_paying (.inl hs)) (congrArg (winchBridge · outward) hs)]
    rfl
  · have hbridge : winchBridge w.state 0 = .brake := by
      rcases hs with h | h <;> rw [h] <;> rfl
    rw [winchPeriod_of_resting (hs.imp_right .inl) hbridge]
    rfl
  · rw [winchPeriod_of_resting (.inr (.inr hs)) (congrArg (winchBridge · 0) hs)]
    rfl
  · rw [winchPeriod_of_hauling (.inr ⟨hs, hd⟩) (moveEndCheck_measured_of_short hd htarget (fun _ => hmm) nofun) ht]
    rfl
  · rw [winchPeriod_of_untimed (by simp [w, hs]) (moveEndCheck_measured_of_short hd htarget nofun fun _ => hmm)
      (by simp [loadTimed_iff, w, hs, hd]) (winchDuty_of_paying (.inr ⟨hs, hd⟩))
      (congrArg (winchBridge · outward) hs)]
    rfl
  · rw [winchPeriod_of_moveEnd hs ((moveReached_iff (s := measuredState m s) htarget hd).mpr hmm)]
    rfl
  · intro hauled detected hs hdet hload ht
    rw [winchPeriod_of_referenceRunning hs hdet hload ht]
    rfl

theorem eventWhen_of_mem {h : WinchHappening} {m : Nat} {s t : State} {hs : List WinchHappening}
    (hw : winchPeriod m s = (t, hs)) (hmem : h ∈ hs) : eventWhen h (winchPeriod m) s = t := by
  simp [eventWhen, hw, hmem]

/-- Settles O46: both ends are ends of step 3 of the period. -/
theorem referenceEndsByPointOrTimeout : Obligations.ReferenceEndsByPointOrTimeout := by
  intro m s hp hs p w cur ended
  refine ⟨fun hcur ht => ?_, fun op hop hnot ht => ?_⟩
  · have hdetected : 50 ≤ detectionTimer (measuredState m s) := ht.trans_eq (if_pos hcur).symm
    have hexec : exec (.referenceDetected m) s =
        .next (arbitrate (eventWhen .referenceTaken (winchPeriod m) s)) := event_powered hp
    rw [hexec, eventWhen_of_mem (winchPeriod_of_referenceEnd
      (referenceStep_of_detected (s := measuredState m s) hs hdetected)) (List.mem_singleton_self _)]
    rfl
  · have hrunning : detectionTimer (measuredState m s) < 50 := by
      have htimer : detectionTimer (measuredState m s) =
          if p.nat .referenceCurrent < cur then w.refTimer + 10 else 0 := rfl
      rw [htimer]
      split
      · next hcur => exact Nat.not_le.mp fun h50 => hnot ⟨hcur, h50⟩
      · decide
    have hexec : exec (.referenceTimeout m) s =
        .next (arbitrate (eventWhen .referenceTimedOut (winchPeriod m) s)) := event_powered hp
    rw [hexec, eventWhen_of_mem (winchPeriod_of_referenceEnd
      (referenceStep_of_timeout (s := measuredState m s) hs hrunning hop ht)) (List.mem_singleton_self _)]
    rfl

/-- Settles O47: the period that reaches LOAD_HOLD, the slot's operation ended when it was a MOVE. -/
theorem loadHoldBrakesTheHaul : Obligations.LoadHoldBrakesTheHaul := by
  intro m s hp p w cur held hcur ht
  have hexec : exec (.loadHoldEntry m) s = .next (arbitrate (eventWhen .loadHeld (winchPeriod m) s)) :=
    event_powered hp
  have hreached : 100 ≤ loadTimerAfter (measuredState m s) := ht.trans_eq (if_pos hcur).symm
  rw [hexec]
  refine ⟨fun hs => ?_, fun target hs hd htarget hmm => ?_⟩
  · have hmove : ¬s.winch.state = .move := fun hm => by
      cases hs.symm.trans hm
    rw [eventWhen_of_mem (winchPeriod_of_loadHold (.inl hs) (moveEndCheck_measured_of_runIn hs) hreached)
      (List.mem_singleton_self _), if_neg hmove]
    rfl
  · rw [eventWhen_of_mem (winchPeriod_of_loadHold (.inr ⟨hs, hd⟩)
      (moveEndCheck_measured_of_short hd htarget (fun _ => hmm) nofun) hreached) (List.mem_singleton_self _), if_pos hs]
    rfl

end Sys2Proof.Machine.WinchBlock
end

section
/-! SUPPLY CLEAR by its three cases (R115, R117). -/

namespace Sys2Proof.Machine.SupplyMonitor

open MotionGeometry

theorem clearAllowed_iff (s : State) : clearAllowed s = true ↔
    s.chassis.profile.nat .thresholdLimit + s.chassis.profile.nat .hysteresis ≤ s.supply.vComp := decide_eq_true_iff

theorem supplyClearBody_of_other {s : State} (h : s.supply.stage ≠ .cutoff) (l : Link) (c : Command) :
    supplyClearBody l c s = .good [] s := by
  cases hs : s.supply.stage with
  | cutoff => exact absurd hs h
  | normal | conserve | limit => simp only [supplyClearBody, hs]

theorem supplyClearBody_of_refused {s : State} (h : s.supply.stage = .cutoff) (ha : ¬clearAllowed s = true) (l : Link)
    (c : Command) : supplyClearBody l c s = .check (.notReady .cutoff) none := by
  simp only [supplyClearBody, h, if_neg ha]

/-- A clear that is allowed is a stage change to LIMIT, whose records are all it leaves (R117). -/
theorem supplyClearBody_of_allowed {s : State} (h : s.supply.stage = .cutoff) (ha : clearAllowed s = true) (l : Link)
    (c : Command) : supplyClearBody l c s = .good [] (stageRecorded .limit .clear s) := by
  simp only [supplyClearBody, h, if_pos ha, changeStage_eq, reduceCtorEq, if_false]

/-- SUPPLY has no last commander, so GOOD leaves what the execution left (R12). -/
theorem given_good_supplyClear (l : Link) (t u : Byte) (r q : State) (reply : List Byte) :
    given .supplyClear l t u r (.good reply q) = answered l t .good reply q := rfl

theorem exec_supplyClear {l : Link} {t u : Byte} {b : List Byte} {s : State} {e : Exec}
    (h : admitted .supplyClear l t u b s = true)
    (he : supplyClearBody l ⟨t, u, 0x61, b⟩ (taken l ⟨t, u, 0x61, b⟩ s) = e) :
    exec (.supplyClear l t u b) s = .next (given .supplyClear l t u (taken l ⟨t, u, 0x61, b⟩ s) e) := by
  rw [← he]
  exact exec_given rfl h

/-- Settles O32: SUPPLY CLEAR outside CUTOFF, below T_LIMIT + H, and from there on. -/
theorem supplyClearLeavesCutoff : Obligations.SupplyClearLeavesCutoff := by
  intro l t u b s h r level
  have hallowed : clearAllowed r = true ↔ level ≤ s.supply.vComp := clearAllowed_iff r
  refine ⟨fun hs => ?_, fun hs hv => ?_, fun hs hv => ?_⟩
  · rw [exec_supplyClear h (supplyClearBody_of_other (s := r) hs l _), given_good_supplyClear]
  · have hrefused : ¬clearAllowed r = true := fun ha => Nat.not_le.mpr hv (hallowed.mp ha)
    rw [exec_supplyClear h (supplyClearBody_of_refused (s := r) hs hrefused l _), given_check]
  · rw [exec_supplyClear h (supplyClearBody_of_allowed (s := r) hs (hallowed.mpr hv) l _), given_good_supplyClear,
      ← hs]
    rfl

end Sys2Proof.Machine.SupplyMonitor
end

section
/-! The latch of CUTOFF: nothing but SUPPLY CLEAR and power-on leaves it (R114, R121). -/

namespace Sys2Proof.Machine.SupplyMonitor

open MotionGeometry

/-! ## Commands (R3 to R8) -/

/-- Every execution but that of SUPPLY CLEAR leaves the supply monitor alone. -/
theorem runBody_supply {n : CmdName} (hn : n ≠ .supplyClear) (l : Link) (c : Command) (s : State) :
    Leaves (fun t => t.supply = s.supply) (runBody n l c s) := by
  by_cases hr : n = .chassisReset
  · subst hr
    simp only [runBody, chassisResetBody]
    split
    · trivial
    · exact chassisResetAll_supply s
  · exact leaves_mono (RangesKept.runBody hn hr l c s) fun _ k => k.supply

theorem settle_supply {e : Exec} {s : State} (h : Leaves (fun t => t.supply = s.supply) e) (l : Link) (n : CmdName)
    (c : Command) : (settle l n c s e).st.supply = s.supply := by
  cases e with
  | good reply t => exact (markCommander_supply l n t).trans h
  | accepted k reply t => exact ((markCommander_supply l n _).trans (fillOp_supply l n k c.tag t)).trans h
  | check r v => rfl
  | conflict => rfl

theorem ofCode_of_validity {c : Command} {n : CmdName} (h : validity c = .ok n) : CmdName.ofCode c.code = some n := by
  unfold validity at h
  split at h
  · cases h
  · next m hm =>
    split at h
    · split at h
      · cases h
        exact hm
      · cases h
    · cases h

/-- Every command of another code than 61h leaves the supply monitor alone, however it is answered. -/
theorem screen_supply {c : Command} (hc : c.code ≠ 0x61) (l : Link) (s : State) :
    (screen l c s).st.supply = s.supply := by
  unfold screen
  split
  · rfl
  · split
    · rfl
    · next n hv =>
      have hn : n ≠ .supplyClear := fun hn => hc (by rw [← CmdName.code_of_ofCode (ofCode_of_validity hv), hn]; rfl)
      split
      · rfl
      · split
        · rfl
        · unfold execute
          split
          · rfl
          · exact settle_supply (runBody_supply hn l c s) l n c

theorem arrive_supply {c : Command} (hc : c.code ≠ 0x61) (l : Link) (s : State) :
    (arrive l c s).supply = s.supply := by
  cases hs : (s.ports.get l).slot with
  | none =>
    rw [arrive_free hs]
    exact screen_supply hc l (taken l c s)
  | some x =>
    rw [arrive_full (by simp [hs])]
    rfl

/-! ## Bytes received (R161, R163) -/

/-- The byte is the last of a good SUPPLY CLEAR frame: kind 1, code 61h. -/
def EndsSupplyClear (l : Link) (b : Byte) (s : State) : Prop :=
  let buffer := (s.ports.get l).buffer ++ [b]
  (s.ports.get l).assembly = .check ∧ (byteAt buffer 0).toNat + 3 ≤ buffer.length ∧ frameGood buffer = true ∧
    byteAt buffer 1 = 1 ∧ byteAt buffer 4 = 0x61

/-- A byte completes a frame only in CHECK, and the frame is then the buffer with that byte (R161). -/
theorem assemble_completes {q : Port} {b : Byte} {buffer : List Byte} (h : (q.assemble b).2 = some buffer) :
    q.assembly = .check ∧ announced buffer + 3 ≤ buffer.length ∧ buffer = q.buffer ++ [b] := by
  cases hq : q.assembly with
  | hunt => simp [Port.assemble, hq] at h
  | length =>
    simp only [Port.assemble, hq] at h
    split at h
    · cases h
    · split at h <;> cases h
  | body => simp [Port.assemble, hq] at h
  | check =>
    simp only [Port.assemble, hq] at h
    split at h
    · next hlen =>
      cases h
      exact ⟨rfl, hlen, rfl⟩
    · cases h

/-- The body of a frame starts at the byte after the length (R164). -/
theorem byteAt_of_frameBody {buffer : List Byte} {i : Nat} {x : Byte} (h : byteAt (frameBody buffer) i = x)
    (hx : x ≠ 0) : byteAt buffer (i + 1) = x := by
  simp only [byteAt, frameBody, List.getD_eq_getElem?_getD, List.getElem?_drop, List.getElem?_take] at h ⊢
  split at h
  · rwa [Nat.add_comm] at h
  · exact absurd h.symm hx

/-- A completed frame leaves the supply monitor alone, unless it is a good SUPPLY CLEAR frame. -/
theorem completeFrame_supply {buffer : List Byte}
    (h : ¬(frameGood buffer = true ∧ byteAt buffer 1 = 1 ∧ byteAt buffer 4 = 0x61)) (l : Link) (s : State) :
    (completeFrame l buffer s).supply = s.supply := by
  unfold completeFrame
  split
  · next hgood =>
    split
    · next hkind =>
      refine arrive_supply (fun hcode => h ⟨hgood, ?_, ?_⟩) l s
      · exact byteAt_of_frameBody hkind (by decide)
      · exact byteAt_of_frameBody hcode (by decide)
    · rfl
  · rfl

theorem receiveByte_supply {l : Link} {b : Byte} {s : State} (h : ¬EndsSupplyClear l b s) :
    (receiveByte l b s).supply = s.supply := by
  unfold receiveByte
  dsimp only
  split
  · next buffer hbuffer =>
    obtain ⟨hcheck, hlen, rfl⟩ := assemble_completes hbuffer
    exact completeFrame_supply (fun hframe => h ⟨hcheck, hlen, hframe⟩) l _
  · rfl

/-! ## Periods and timers -/

/-- The stage decision keeps CUTOFF after the first classification (R114). -/
theorem supplyPeriod_keeps_cutoff {s : State} (hs : s.supply.stage = .cutoff) (hi : s.supply.initialPending = false)
    (x : Taps) (shunt : Int) : (supplyPeriod x shunt s).1.supply.stage = .cutoff := by
  rw [supplyPeriod_eq, allocationStep_supply, supplyDecision_later hi rfl, if_pos hs]
  exact hs

/-- An event keeps CUTOFF when its effect does: the arbiters touch no stage (R168). -/
theorem event_keeps_cutoff {f : State → State} {s t : State} (ht : event f s = .next t)
    (hs : s.supply.stage = .cutoff) (hf : (f s).supply.stage = .cutoff) : t.supply.stage = .cutoff := by
  cases hp : s.powered with
  | true =>
    rw [event_powered hp, Host.Outcome.next.injEq] at ht
    rwa [← ht, arbitrate_supply]
  | false =>
    rw [event_unpowered hp, Host.Outcome.next.injEq] at ht
    rwa [← ht]

theorem event_keeps_cutoff_of_supply {f : State → State} {s t : State} (ht : event f s = .next t)
    (hs : s.supply.stage = .cutoff) (hf : (f s).supply = s.supply) : t.supply.stage = .cutoff :=
  event_keeps_cutoff ht hs (by rwa [hf])

/-- A row that names an outcome of a period leaves the supply monitor alone when the period does (log entry 3). -/
theorem eventWhen_supply {α : Type} [DecidableEq α] (x : α) {f : State → State × List α} {s : State}
    (hf : (f s).1.supply = s.supply) : (eventWhen x f s).supply = s.supply :=
  eventWhen_keeps (P := fun t => t.supply = s.supply) x rfl hf

/-- Every event row but power-on and the bytes received keeps CUTOFF after the first classification. -/
theorem eventRow_keeps_cutoff {i : Instr} {s t : State} (hi : instrFrame i = none) (hon : i ≠ .powerOn)
    (hframe : ∀ l b, i ≠ .frameReceived l b) (hbyte : ∀ l b, i ≠ .byteReceived l b false)
    (hs : s.supply.stage = .cutoff) (hfirst : s.supply.initialPending = false) (ht : exec i s = .next t) :
    t.supply.stage = .cutoff := by
  cases i with
  | powerOn => exact absurd rfl hon
  | frameReceived l b => exact absurd rfl (hframe l b)
  | byteReceived l b broken =>
    cases broken with
    | false => exact absurd rfl (hbyte l b)
    | true => exact event_keeps_cutoff ht hs hs
  | powerLoss =>
    obtain rfl := Host.Outcome.next.inj ht
    split
    · rwa [(VehicleKept.losePower s).supply]
    · exact hs
  | frameByteTimeout l | transmitFrameEnd l | servoFrame a => exact event_keeps_cutoff ht hs hs
  | silenceTimeout l => exact event_keeps_cutoff_of_supply ht hs (silenceTimeout_supply l s)
  | commitWriteComplete => exact event_keeps_cutoff_of_supply ht hs (commitComplete_supply s)
  | settlingEnd => exact event_keeps_cutoff_of_supply ht hs (settlingEnd_supply s)
  | motionPeriod m => exact event_keeps_cutoff_of_supply ht hs (motionPeriod_supply m s)
  | drumCount dir => exact event_keeps_cutoff_of_supply ht hs (drumCount_supply dir s)
  | regulatorPeriod w n c =>
    exact event_keeps_cutoff_of_supply (f := fun s => (regulatorPeriod w n c s).1) ht hs
      (regulatorPeriod_supply w n c s)
  | holdCreepExceeded w n c | holdSettleEnd w n c | stallTimeReached w n c | stallRestEnd w n c | faultRestEnd w n c
  | faultWindowClose w n c =>
    exact event_keeps_cutoff_of_supply ht hs (eventWhen_supply _ (regulatorPeriod_supply w n c s))
  | winchPeriod c =>
    exact event_keeps_cutoff_of_supply (f := fun s => (winchPeriod c s).1) ht hs (winchPeriod_supply c s)
  | referenceDetected c | referenceTimeout c | loadHoldEntry c =>
    exact event_keeps_cutoff_of_supply ht hs (eventWhen_supply _ (winchPeriod_supply c s))
  | lightFrameBoundary =>
    exact event_keeps_cutoff_of_supply (f := fun s => (lightBoundary s).1) ht hs (lightBoundary_supply s)
  | playbackCountdown | fadeEnd =>
    exact event_keeps_cutoff_of_supply ht hs (eventWhen_supply _ (lightBoundary_supply s))
  | supplyPeriod x shunt =>
    exact event_keeps_cutoff (f := fun s => (supplyPeriod x shunt s).1) ht hs
      (supplyPeriod_keeps_cutoff hs hfirst x shunt)
  | dwellDownReached x shunt | dwellUpReached x shunt =>
    exact event_keeps_cutoff ht hs
      (eventWhen_keeps (P := fun t => t.supply.stage = .cutoff) _ hs (supplyPeriod_keeps_cutoff hs hfirst x shunt))
  | _ => cases hi

/-- A byte received keeps CUTOFF, unless it is the last of a good SUPPLY CLEAR frame. -/
theorem endsSupplyClear_of_leaves {l : Link} {b : Byte} {s t : State} (ht : event (receiveByte l b) s = .next t)
    (hs : s.supply.stage = .cutoff) (hleft : t.supply.stage ≠ .cutoff) : EndsSupplyClear l b s := by
  by_contra h
  exact hleft (event_keeps_cutoff_of_supply ht hs (receiveByte_supply h))

/-- Settles O60: a command row by its code, a byte by the frame it completes, and every other row by its block. -/
theorem cutoffIsLatched : Obligations.CutoffIsLatched := by
  intro i s t hs hfirst ht hleft
  cases hi : instrFrame i with
  | some lc =>
    obtain ⟨l, c⟩ := lc
    rw [exec_of_frame hi] at ht
    have hcode : c.code = 0x61 := by
      by_contra hc
      exact hleft (event_keeps_cutoff_of_supply ht hs (arrive_supply hc l s))
    exact .inr (.inl ⟨l, c, rfl, hcode⟩)
  | none =>
    by_cases hon : i = .powerOn
    · exact .inl hon
    by_cases hframe : ∃ l b, i = .frameReceived l b
    · obtain ⟨l, b, rfl⟩ := hframe
      exact .inr (.inr ⟨l, b, .inl rfl, endsSupplyClear_of_leaves ht hs hleft⟩)
    by_cases hbyte : ∃ l b, i = .byteReceived l b false
    · obtain ⟨l, b, rfl⟩ := hbyte
      exact .inr (.inr ⟨l, b, .inr rfl, endsSupplyClear_of_leaves ht hs hleft⟩)
    push Not at hframe hbyte
    exact absurd (eventRow_keeps_cutoff hi hon hframe hbyte hs hfirst ht) hleft

end Sys2Proof.Machine.SupplyMonitor
end

section
/-! The current allocation (R122 to R127) and the three governors (R128 to R130). -/

namespace Sys2Proof.Machine.Allocation

/-! ## The shares -/

theorem sharesIn_of_ne_cutoff {stage : Stage} (h : stage ≠ .cutoff) (p : Profile) (order : ServingOrder)
    (a iD iW : Nat) : sharesIn p stage order a iD iW =
      sharesBy order a (p.nat .lightsFloor) iD iW (p.nat .driveLimit) (p.nat .winchLimit) (p.nat .lightsLimit) := by
  cases stage with
  | cutoff => exact absurd rfl h
  | normal | conserve | limit => rfl

/-- The consumer served first is offered A, the second what the first's use leaves of it (R126). -/
theorem sharesBy_caps (order : ServingOrder) (a floor iD iW limD limW limL : Nat) :
    let sh := sharesBy order a floor iD iW limD limW limL
    (order = .driveFirst → sh.capD = min a limD ∧ sh.capW = min (a - sh.usedD) limW) ∧
      (order = .winchFirst → sh.capW = min a limW ∧ sh.capD = min (a - sh.usedW) limD) := by
  cases order with
  | driveFirst => exact ⟨fun _ => ⟨rfl, rfl⟩, nofun⟩
  | winchFirst => exact ⟨nofun, fun _ => ⟨rfl, rfl⟩⟩

/-- In either order each consumer uses its draw up to its cap, and the lights have the rest with the floor (R126). -/
theorem sharesBy_used_capL (order : ServingOrder) (a floor iD iW limD limW limL : Nat) :
    let sh := sharesBy order a floor iD iW limD limW limL
    sh.usedD = min iD sh.capD ∧ sh.usedW = min iW sh.capW ∧
      sh.capL = min (floor + a - sh.usedD - sh.usedW) limL := by
  cases order with
  | driveFirst => exact ⟨rfl, rfl, rfl⟩
  | winchFirst => exact ⟨rfl, rfl, congrArg (min · limL) (Nat.sub_right_comm _ _ _)⟩

/-- The consumer served second has only what the first has left, so the two together stay within A (R126). -/
theorem sharesBy_used_le (order : ServingOrder) (a floor iD iW limD limW limL : Nat) :
    let sh := sharesBy order a floor iD iW limD limW limL
    sh.usedD + sh.usedW ≤ a := by
  cases order with
  | driveFirst =>
    change min iD (min a limD) + min iW (min (a - min iD (min a limD)) limW) ≤ a
    omega
  | winchFirst =>
    change min iD (min (a - min iW (min a limW)) limD) + min iW (min a limW) ≤ a
    omega

theorem sharesBy_total_le (order : ServingOrder) (a floor iD iW limD limW limL : Nat) :
    let sh := sharesBy order a floor iD iW limD limW limL
    sh.usedD + sh.usedW + sh.capL ≤ floor + a := by
  intro sh
  obtain ⟨-, -, hcapL⟩ := sharesBy_used_capL order a floor iD iW limD limW limL
  have hused : sh.usedD + sh.usedW ≤ a := sharesBy_used_le order a floor iD iW limD limW limL
  have hrest : sh.capL ≤ floor + a - sh.usedD - sh.usedW := hcapL.trans_le (min_le_left _ _)
  omega

/-- In every stage what is used and the lights' cap stay within the floor and A together (R126, R127). -/
theorem sharesIn_total_le (p : Profile) (stage : Stage) (order : ServingOrder) (a iD iW : Nat) :
    let sh := sharesIn p stage order a iD iW
    sh.usedD + sh.usedW + sh.capL ≤ p.nat .lightsFloor + a := by
  cases stage with
  | cutoff =>
    change 0 + 0 + p.nat .lightsFloor ≤ p.nat .lightsFloor + a
    omega
  | normal | conserve | limit => exact sharesBy_total_le order a _ iD iW _ _ _

/-! ## The governors -/

theorem feedback_within {rise g i cap : Nat} (h : i ≤ cap) : feedback rise g i cap = min (g + rise) 1024 :=
  if_neg (Nat.not_lt.mpr h)

/-- Above the cap the factor falls in proportion; at a cap of 0 the proportion is 0 too, as R128 says apart. -/
theorem feedback_above {rise g i cap : Nat} (h : cap < i) : feedback rise g i cap = g * cap / i := by
  rw [feedback, if_pos h]
  split
  · next hcap => simp [hcap]
  · rfl

theorem feedback_lt {rise g i cap : Nat} (h : cap < i) (hg : 0 < g) : feedback rise g i cap < g := by
  rw [feedback_above h, Nat.div_lt_iff_lt_mul (Nat.zero_lt_of_lt h)]
  exact Nat.mul_lt_mul_of_pos_left h hg

/-- What R128 asks of a factor's new value, from the draw, the cap and the previous factor of its consumer. -/
def FollowsDraw (rise g i cap new : Nat) : Prop :=
  (cap < i → cap = 0 → new = 0) ∧
  (cap < i → 0 < cap → new = g * cap / i) ∧
  (cap < i → 0 < g → new < g) ∧
  (cap < i → g = 0 → new = 0) ∧
  (i ≤ cap → new = min (g + rise) 1024)

/-- Outside CUTOFF both feedback governors follow R128. -/
theorem feedbackIn_followsDraw {stage : Stage} (h : stage ≠ .cutoff) (rise g i cap : Nat) :
    FollowsDraw rise g i cap (feedbackIn stage rise g i cap) := by
  have heq : feedbackIn stage rise g i cap = feedback rise g i cap := by
    cases stage with
    | cutoff => exact absurd rfl h
    | normal | conserve | limit => rfl
  rw [heq]
  refine ⟨fun hi hcap => ?_, fun hi _ => feedback_above hi, feedback_lt, fun hi hg => ?_, feedback_within⟩
  · rw [feedback_above hi, hcap, Nat.mul_zero, Nat.zero_div]
  · rw [feedback_above hi, hg, Nat.zero_mul, Nat.zero_div]

theorem lightsGovernor_within {iLest capL : Nat} (h : iLest ≤ capL) : lightsGovernor iLest capL = 1024 := if_pos h

theorem lightsGovernor_above {iLest capL : Nat} (h : capL < iLest) :
    lightsGovernor iLest capL = 1024 * capL / iLest := if_neg (Nat.not_le.mpr h)

/-! ## The statements -/

/-- Settles O50: the shares by the stage and the serving order, and the governors by R128's cases. -/
theorem allocationSharesTheBudget : Obligations.AllocationSharesTheBudget := by
  refine ⟨fun p stage tow iSteer iD iW iLest x => ?_, fun p stage tow iSteer iD iW iLest x hs =>
    ⟨feedbackIn_followsDraw hs _ _ _ _, feedbackIn_followsDraw hs _ _ _ _⟩⟩
  intro y floor
  refine ⟨rfl, rfl, rfl, fun hs => ?_, fun hs => ?_, ?_⟩
  · subst hs
    exact ⟨rfl, rfl, rfl, rfl, rfl⟩
  · have hsh := sharesIn_of_ne_cutoff hs p y.order y.a iD iW
    obtain ⟨hdriveFirst, hwinchFirst⟩ := sharesBy_caps y.order y.a floor iD iW (p.nat .driveLimit)
      (p.nat .winchLimit) (p.nat .lightsLimit)
    obtain ⟨husedD, husedW, hcapL⟩ := sharesBy_used_capL y.order y.a floor iD iW (p.nat .driveLimit)
      (p.nat .winchLimit) (p.nat .lightsLimit)
    have hused := sharesBy_used_le y.order y.a floor iD iW (p.nat .driveLimit) (p.nat .winchLimit)
      (p.nat .lightsLimit)
    rw [← hsh] at hdriveFirst hwinchFirst husedD husedW hcapL hused
    exact ⟨husedD, husedW, fun ht => hdriveFirst (if_neg (ne_true_of_eq_false ht)), fun ht => hwinchFirst (if_pos ht),
      hcapL, hused⟩
  · have htotal : y.usedD + y.usedW + y.capL ≤ floor + y.a := sharesIn_total_le p stage y.order y.a iD iW
    have ha : y.a = y.iAvail - iSteer - floor := rfl
    omega

/-- Settles O51: g_L by R130's two cases, in which the previous factors do not stand. -/
theorem lightsGovernorFollowsTheEstimate : Obligations.LightsGovernorFollowsTheEstimate := by
  intro p stage tow iSteer iD iW iLest x z y
  have hwithin : iLest ≤ y.capL → y.gL = 1024 := lightsGovernor_within
  have habove : y.capL < iLest → y.gL = 1024 * y.capL / iLest := lightsGovernor_above
  refine ⟨hwithin, habove, fun hi => hwithin (by omega), fun hcap hi => ?_, fun hs => ?_, rfl⟩
  · simp [habove (by omega), hcap]
  · subst hs
    rfl

end Sys2Proof.Machine.Allocation
end

section
/-! The commands of the light engine (R136, R137, R139, R143, R144, R150, R151). -/

namespace Sys2Proof.Machine.LightEngine

open MotionGeometry

/-! ## The answer of a light command -/

/-- ACCEPTED fills the unit's slot and makes the sender of a mutating command its last commander (R12, R17). -/
theorem given_accepted_of_mutating {n : CmdName} {v : UnitId} (hc : n.row.cls = .mutating) (hv : n.row.target = some v)
    (l : Link) (tag unit : Byte) (r : State) (kind : LongKind) (reply : List Byte) (t : State) :
    given n l tag unit r (.accepted kind reply t) =
      answered l tag .accepted reply (commanded v l (slotFilled v kind l tag t)) := by
  simp only [given, markCommander, fillOp, hc, hv]
  rfl

theorem byteOf_toNat (b : Byte) : byteOf b.toNat = b := by
  simp [byteOf]

/-! ## LIGHT WRITE (R136, R137) -/

theorem lightWriteBody_of_le {c : Command} (h : 64 ≤ (byteAt c.params 0).toNat) (l : Link) (s : State) :
    lightWriteBody l c s = .check (.illegal .badFrameIndex) none := if_pos h

theorem lightWriteBody_of_lt {c : Command} (h : (byteAt c.params 0).toNat < 64) (l : Link) (s : State) :
    lightWriteBody l c s = .good
      [byteAt c.params 0, byteOf (includingCount (byteAt c.params 0).toNat s.lights)]
      { s with
        lights := writeFrame l (byteAt c.params 0).toNat (byteAt c.params 1 = 1) (frameFrom c.params) s.lights
        chassis := { s.chassis with unsaved := true, changedSince := true } } := by
  simp only [lightWriteBody, if_neg (Nat.not_le.mpr h), byteOf_toNat]
  rfl

/-- Every channel of every frame after a write (R136). -/
theorem writeFrame_store (l : Link) {index : Nat} (more : Bool) (values : Frame) (x : Lights) (i : Fin 64) (c : Fin 24) :
    (writeFrame l index more values x).store[i][c] = if i.val = index then values[c] else x.store[i][c] := by
  simp only [writeFrame, Fin.getElem_fin, Vector.getElem_setIfInBounds, eq_comm (a := index)]
  split <;> rfl

/-- The marking of R137, record by record. -/
theorem writeFrame_table (l : Link) (index : Nat) (more : Bool) (values : Frame) (x : Lights) (i : Fin 16) :
    (writeFrame l index more values x).table[i] = { x.table[i] with
      openBy := if x.table[i].defn.includes index then openAfterWrite more l x.table[i].openBy
        else x.table[i].openBy } := by
  simp only [writeFrame, mapOpen, Fin.getElem_fin, vecMap_get]

/-- Settles O28: the two cases of the body, and the written store and table read entry by entry. -/
theorem lightWriteReplacesTheFrame : Obligations.LightWriteReplacesTheFrame := by
  intro l t u b s h r index hit
  have hgiven : exec (.lightWrite l t u b) s =
      .next (given .lightWrite l t u r (lightWriteBody l ⟨t, u, 0x50, b⟩ r)) := exec_given rfl h
  refine ⟨fun hi => ?_, fun hi => ?_⟩
  · rw [hgiven, lightWriteBody_of_le hi, given_check]
  · rw [hgiven, lightWriteBody_of_lt hi, given_good_of_mutating (n := .lightWrite) rfl rfl]
    refine ⟨writeFrame l index (byteAt b 1 = 1) (frameFrom b) s.lights, rfl, fun i c => ?_, fun i => ?_, rfl⟩
    · rw [writeFrame_store, frameFrom_get]
    · rw [writeFrame_table]
      simp only [openAfterWrite, decide_eq_true_eq]
      rfl

/-! ## LIGHT DEFINE (R139) -/

theorem flagByte_clamped (sent stored : Nat) : flagByte (decide (stored ≠ sent)) = if stored = sent then 0 else 1 := by
  by_cases h : stored = sent
  · simp [flagByte, h]
  · simp [flagByte, h]

/-- LIGHT DEFINE by the rows of its table. -/
theorem lightDefineBody_eq (l : Link) (c : Command) (s : State) :
    let at' (i : Nat) : Nat := (byteAt c.params i).toNat
    let stored (x : Record) (flag : Byte) : Exec := .good (x.bytes ++ [flag]) { s with
      lights := { s.lights with table := s.lights.table.setIfInBounds (at' 0) x }
      chassis := { s.chassis with unsaved := true, changedSince := true } }
    lightDefineBody l c s =
      if 15 < at' 0 then .check (.illegal .patternUndefined) none
      else if at' 1 = 0 then stored ⟨.undefined, none⟩ 0
      else if 63 < at' 2 then .check (.illegal .badFrameIndex) none
      else if at' 3 = 0 ∨ 64 < at' 2 + at' 3 then .check (.illegal .patternRange) none
      else stored
        ⟨⟨true, at' 2, at' 3, clampNat 1 100 (at' 4), endActionOf (byteAt c.params 5)⟩,
          (s.lights.record (at' 0)).openBy⟩
        (if clampNat 1 100 (at' 4) = at' 4 then 0 else 1) := by
  intro at' stored
  unfold lightDefineBody definedRecord
  dsimp only
  split
  · rfl
  · by_cases hoff : at' 1 = 0
    · simp only [at', if_pos hoff]
      rfl
    · by_cases hframe : 63 < at' 2
      · simp only [at', if_neg hoff, if_pos hframe]
      · by_cases hrange : at' 3 = 0 ∨ 64 < at' 2 + at' 3
        · simp only [at', if_neg hoff, if_neg hframe, if_pos hrange]
        · simp only [at', if_neg hoff, if_neg hframe, if_neg hrange, flagByte_clamped]
          rfl

theorem endActionOf_eq (b : Byte) : endActionOf b = if b.toNat = 0 then .loop else .once := by
  simp [endActionOf, ← BitVec.toNat_inj]

/-- Settles O29: the rows of the table, each refused or stored. -/
theorem lightDefineWritesTheRecord : Obligations.LightDefineWritesTheRecord := by
  intro l t u b s h r at' refused stored
  have hgiven : exec (.lightDefine l t u b) s =
      .next (given .lightDefine l t u r (lightDefineBody l ⟨t, u, 0x51, b⟩ r)) := exec_given rfl h
  rw [hgiven]
  simp only [lightDefineBody_eq, endActionOf_eq, apply_ite (given .lightDefine l t u r),
    given_good_of_mutating (n := .lightDefine) rfl rfl, given_check]
  simp only [apply_ite Host.Outcome.next]
  rfl

/-! ## OVERLAY SET and LIGHT AUTO (R150, R151) -/

theorem overlaySetBody_eq (l : Link) (c : Command) (s : State) :
    let n := (byteAt c.params 0).toNat
    overlaySetBody l c s =
      if n = 255 ∨ n < 16 ∧ (s.lights.defn n).defined = true then
        .good [] { s with lights := { s.lights with
          mode := .manual
          overlay := { s.lights.overlay with
            pattern := if n = 255 then none else some n
            mirrored := decide (byteAt c.params 1 = 1)
            restart := true } } }
      else .check (.illegal .patternUndefined) none := by
  intro n
  unfold overlaySetBody overlayPattern
  by_cases hnone : n = 255
  · simp only [n, if_pos hnone, if_pos (Or.inl hnone)]
    rfl
  · by_cases hdef : n < 16 ∧ (s.lights.defn n).defined = true
    · simp only [n, if_neg hnone, if_pos hdef, if_pos (Or.inr hdef)]
      rfl
    · simp only [n, if_neg hnone, if_neg hdef, if_neg (not_or.mpr ⟨hnone, hdef⟩)]

theorem toAuto_eq (x : Lights) : toAuto x = if x.mode = .manual then { x with
      mode := .auto
      indicator := { x.indicator with active := false }
      brake := { x.brake with active := false }
      reverse := { x.reverse with active := false } }
    else x := by
  cases hmode : x.mode <;> simp [toAuto, hmode]

theorem toManual_eq (x : Lights) : toManual x = if x.mode = .auto then { x with
      mode := .manual, overlay := { x.overlay with restart := true } }
    else x := by
  cases hmode : x.mode <;> simp [toManual, hmode]

theorem lightAutoBody_eq (l : Link) (c : Command) (s : State) :
    let x := s.lights
    lightAutoBody l c s = .good [] { s with
      lights :=
        if byteAt c.params 0 = 1 ∧ x.mode = .manual then { x with
          mode := .auto
          indicator := { x.indicator with active := false }
          brake := { x.brake with active := false }
          reverse := { x.reverse with active := false } }
        else if byteAt c.params 0 ≠ 1 ∧ x.mode = .auto then { x with
          mode := .manual, overlay := { x.overlay with restart := true } }
        else x } := by
  intro x
  by_cases hauto : byteAt c.params 0 = 1
  · simp only [lightAutoBody, toAuto_eq, hauto, ne_eq, not_true_eq_false, true_and, false_and, if_false]
    rfl
  · simp only [lightAutoBody, toManual_eq, hauto, ne_eq, not_false_eq_true, true_and, false_and, if_false]
    rfl

/-- Settles O31: the two bodies, the sender then made last commander. -/
theorem overlayAndAutoSetTheSignalMode : Obligations.OverlayAndAutoSetTheSignalMode := by
  intro l t u b s
  refine ⟨fun h => ?_, fun h => ?_⟩
  · intro r n
    have hgiven : exec (.overlaySet l t u b) s =
        .next (given .overlaySet l t u r (overlaySetBody l ⟨t, u, 0x53, b⟩ r)) := exec_given rfl h
    rw [hgiven]
    simp only [overlaySetBody_eq, apply_ite (given .overlaySet l t u r),
      given_good_of_mutating (n := .overlaySet) rfl rfl, given_check]
    rfl
  · intro x
    have hgiven : exec (.lightAuto l t u b) s = .next (given .lightAuto l t u (taken l ⟨t, u, 0x54, b⟩ s)
        (lightAutoBody l ⟨t, u, 0x54, b⟩ (taken l ⟨t, u, 0x54, b⟩ s))) := exec_given rfl h
    rw [hgiven, lightAutoBody_eq, given_good_of_mutating (n := .lightAuto) rfl rfl]
    rfl

/-! ## SHOW PATTERN (R143, R144) -/

/-- The operation in the slot is cancelled, and with it a fade in flight is marked ended (R19, R144). -/
theorem supersede_eq (s : State) : supersede s = { endOp .lights .cancelled s with
    lights := { s.lights with base := { s.lights.base with
      fade := if s.disp.lightsOp.isSome then s.lights.base.fade.map fun f => { f with ended := true }
        else s.lights.base.fade } } } := by
  unfold supersede
  cases hop : s.disp.lightsOp with
  | none =>
    rw [endOp_of_none (u := .lights) hop]
    rfl
  | some op =>
    simp only [endOp_lights]
    rfl

/-- What a block stages: one source, its start step and the clamp of either, and the transition by its code (R143). -/
theorem stagedOf_eq (block : List Byte) (x : Lights) :
    let at' (i : Nat) : Nat := (byteAt block i).toNat
    let n := clampNat 1 64 (at' 3)
    let fill := min (at' 4) 254
    let source := if at' 0 = 0 then Source.pattern (at' 1) else .level (min (at' 1) 254)
    let start := if at' 0 = 0 then min (u16At block 5) ((x.defn (at' 1)).count - 1) else 0
    let srcClamped := if at' 0 = 0 then decide (start ≠ u16At block 5) else decide (254 < at' 1)
    stagedOf block x =
      if at' 2 = 0 then (⟨source, start, .cut⟩, srcClamped)
      else if at' 2 = 1 then (⟨source, start, .fade n⟩, srcClamped || decide (n ≠ at' 3))
      else (⟨source, start, .fill n fill⟩, srcClamped || (decide (n ≠ at' 3) || decide (fill ≠ at' 4))) := by
  intro at' n fill source start srcClamped
  by_cases hpattern : at' 0 = 0
  all_goals
    simp only [stagedOf, at', source, start, srcClamped, hpattern, if_true, if_false]
    split
    · rw [Bool.or_false]
    · split <;> rfl

theorem sourceAllowed_iff (block : List Byte) (x : Lights) : sourceAllowed block x = true ↔
    ((byteAt block 0).toNat = 0 → (x.defn (byteAt block 1).toNat).defined = true) := by
  simp [sourceAllowed, ← BitVec.toNat_inj, imp_iff_not_or]

/-- The source byte of an admitted SHOW PATTERN is 0 or 1, as R5 stops every other code (R143). -/
theorem sourceByte_of_admitted {l : Link} {t u : Byte} {b : List Byte} {s : State}
    (h : admitted .showPattern l t u b s = true) : (byteAt b 0).toNat ≤ 1 := by
  have hfits : blockFits .showPattern b = true := by
    simp only [admitted, Bool.and_eq_true] at h
    obtain ⟨⟨⟨⟨-, hblock⟩, -⟩, -⟩, -⟩ := h
    exact hblock
  simp only [blockFits, enumsFit, Bool.and_eq_true, decide_eq_true_eq] at hfits
  obtain ⟨-, hsource, -⟩ := hfits
  exact hsource

theorem sourceBytes_eq {k v : Byte} (h : k.toNat ≤ 1) :
    (if k.toNat = 0 then Source.pattern v.toNat else .level (min v.toNat 254)).bytes =
      [k, if k.toNat = 0 then v else byteOf (min v.toNat 254)] := by
  have hk : k = 0 ∨ k = 1 := by
    simp only [← BitVec.toNat_inj]
    change k.toNat = 0 ∨ k.toNat = 1
    omega
  rcases hk with rfl | rfl
  · simp [Source.bytes, byteOf_toNat]
  · simp [Source.bytes]

/-- The state with a source staged in the place of what was superseded (R143, R144). -/
def withStaged (g : Staged) (s : State) : State :=
  setLights { (supersede s).lights with base := { (supersede s).lights.base with staged := some g } } (supersede s)

theorem withStaged_eq (g : Staged) (s : State) : withStaged g s = { endOp .lights .cancelled s with
    lights := { s.lights with base := { s.lights.base with
      staged := some g
      fade := if s.disp.lightsOp.isSome then s.lights.base.fade.map fun f => { f with ended := true }
        else s.lights.base.fade } } } := by
  unfold withStaged
  rw [supersede_eq]
  rfl

/-- The answer of SHOW PATTERN to an allowed source, by its transition (R143). -/
def stagedAnswer (g : Staged × Bool) (s : State) : Exec :=
  match g.1.transition with
  | .cut => .good (g.1.bytes ++ [flagByte g.2]) (withStaged g.1 s)
  | .fade _ => .accepted .fade (g.1.bytes ++ [flagByte g.2]) (withStaged g.1 s)
  | .fill _ _ => .accepted .fill (g.1.bytes ++ [flagByte g.2]) (withStaged g.1 s)

theorem showPatternBody_of_allowed {c : Command} {s : State} (h : sourceAllowed c.params s.lights = true) (l : Link) :
    showPatternBody l c s = stagedAnswer (stagedOf c.params s.lights) s := if_pos h

theorem showPatternBody_of_refused {c : Command} {s : State} (h : ¬sourceAllowed c.params s.lights = true) (l : Link) :
    showPatternBody l c s = .check (.illegal .patternUndefined) none := if_neg h

/-- Settles O30: the source is refused or staged, and the answer follows the transition. -/
theorem showPatternStagesTheSource : Obligations.ShowPatternStagesTheSource := by
  intro l t u b s h r at' d n fill source start staged free reply srcClamped
  have hgiven : exec (.showPattern l t u b) s =
      .next (given .showPattern l t u r (showPatternBody l ⟨t, u, 0x52, b⟩ r)) := exec_given rfl h
  have hallowed : sourceAllowed b r.lights = true ↔ (at' 0 = 0 → d.defined = true) := sourceAllowed_iff b s.lights
  have hbytes (x : Transition) (flag : Bool) :
      Staged.bytes ⟨source, start, x⟩ ++ [flagByte flag] = reply x.bytes flag := by
    simp only [Staged.bytes, source, sourceBytes_eq (sourceByte_of_admitted h), at']
    simp [reply, at']
  have hstaged (x : Transition) : withStaged ⟨source, start, x⟩ r = staged x free := withStaged_eq _ r
  have hof : stagedOf b r.lights =
      if at' 2 = 0 then (⟨source, start, .cut⟩, srcClamped)
      else if at' 2 = 1 then (⟨source, start, .fade n⟩, srcClamped || decide (n ≠ at' 3))
      else (⟨source, start, .fill n fill⟩, srcClamped || (decide (n ≠ at' 3) || decide (fill ≠ at' 4))) :=
    stagedOf_eq b s.lights
  refine ⟨fun h0 hd => ?_, fun hd => ?_⟩
  · rw [hgiven, showPatternBody_of_refused (fun ha => ?_), given_check]
    rw [hallowed.mp ha h0] at hd
    cases hd
  · rw [hgiven, showPatternBody_of_allowed (hallowed.mpr hd), hof]
    have hgood := given_good_of_mutating (n := .showPattern) rfl rfl l t u r
    have haccepted := given_accepted_of_mutating (n := .showPattern) rfl rfl l t u r
    split
    · simp only [stagedAnswer, hbytes, hstaged, hgood]
      rfl
    · split
      all_goals
        simp only [stagedAnswer, hbytes, hstaged, haccepted]
        rfl

end Sys2Proof.Machine.LightEngine
end

section
/-! PROFILE RESTORE: what the reading of the image gives and the effects of the restored fields (R70, R84, R156, R157,
R173, R183). -/

namespace Sys2Proof.Machine.LightEngine

open MotionGeometry

/-! ## The marks of changed pattern fields (R156) -/

/-- One field of a new profile: a change marks as a write would. -/
theorem patternReplaced_eq (old new : Profile) (f : Field) (x : Lights) :
    (if old.get f = new.get f then x else patternRewritten f x) = { x with
      indicator := { x.indicator with
        rewritten := x.indicator.rewritten || decide (old.get f ≠ new.get f) && decide (f = .indicatorPattern) }
      brake := { x.brake with
        rewritten := x.brake.rewritten || decide (old.get f ≠ new.get f) && decide (f = .brakePattern) }
      reverse := { x.reverse with
        rewritten := x.reverse.rewritten || decide (old.get f ≠ new.get f) && decide (f = .reversePattern) }
      alert := { x.alert with
        rewritten := x.alert.rewritten ||
          decide (old.get f ≠ new.get f) && decide (x.alert.selected.map Alert.field = some f) } } := by
  by_cases h : old.get f = new.get f
  · simp [h]
  · simp [h, patternRewritten_eq]

/-- A new profile marks the sources and the selected alert whose fields it changes. -/
theorem patternsReplaced_eq (old new : Profile) (x : Lights) :
    let differs (f : Field) : Bool := decide (old.get f ≠ new.get f)
    patternsReplaced old new x = { x with
      indicator := { x.indicator with rewritten := x.indicator.rewritten || differs .indicatorPattern }
      brake := { x.brake with rewritten := x.brake.rewritten || differs .brakePattern }
      reverse := { x.reverse with rewritten := x.reverse.rewritten || differs .reversePattern }
      alert := { x.alert with rewritten := x.alert.rewritten || (match x.alert.selected with
        | none => false
        | some .failsafe => differs .failsafePattern
        | some .cutoff => differs .cutoffPattern
        | some .limit => differs .limitPattern
        | some .winchLoad => differs .winchLoadPattern
        | some .conserve => differs .conservePattern) } } := by
  intro differs
  simp only [patternsReplaced, patternFields, List.foldl_cons, List.foldl_nil, patternReplaced_eq]
  rcases x.alert.selected with _ | a
  · simp [differs]
  · cases a <;> simp [Alert.field, differs]

/-! ## The checks of the winch at a write (R84, R90, R91, R100) -/

/-- What the end of a MOVE and the payout limit leave alone. -/
structure LineKept (s t : State) : Prop where
  ports : portsKept s t
  tow : t.winch.tow = s.winch.tow
  count : t.winch.count = s.winch.count
  referenced : t.winch.referenced = s.winch.referenced
  disp : ∃ op, t.disp = { s.disp with winchOp := op }

namespace LineKept

theorem refl (s : State) : LineKept s s := ⟨.refl s, rfl, rfl, rfl, s.disp.winchOp, rfl⟩

theorem trans {a b c : State} (h : LineKept a b) (k : LineKept b c) : LineKept a c := by
  obtain ⟨_, hb⟩ := h.disp
  obtain ⟨op, hc⟩ := k.disp
  exact ⟨h.ports.trans k.ports, k.tow.trans h.tow, k.count.trans h.count, k.referenced.trans h.referenced, op,
    by rw [hc, hb]⟩

theorem endWinchOp (r : OpResult) (s : State) : LineKept s (endWinchOp r s) where
  ports := endOp_portsKept .winch r (setWinch s.winch.toIdle s)
  tow := by rw [endWinchOp_winch]; rfl
  count := by rw [endWinchOp_winch]; rfl
  referenced := by rw [endWinchOp_winch]; rfl
  disp := ⟨none, endWinchOp_disp r s⟩

theorem payoutLimitStop (s : State) : LineKept s (payoutLimitStop s) := by
  unfold Machine.payoutLimitStop
  split
  · exact ⟨offer_portsKept _ (setWinch { s.winch.toIdle with note := .payoutMax } s), rfl, rfl, rfl,
      s.disp.winchOp, rfl⟩
  · exact refl s

theorem moveEndCheck (s : State) : LineKept s (moveEndCheck s) := by
  unfold Machine.moveEndCheck
  split
  · exact endWinchOp .good s
  · exact refl s

theorem payoutChecks (s : State) : LineKept s (payoutChecks s) := by
  unfold Machine.payoutChecks
  split
  · dsimp only
    split
    · exact (moveEndCheck s).trans (payoutLimitStop _)
    · exact moveEndCheck s
  · exact payoutLimitStop s
  all_goals exact refl s

theorem winchWriteChecks (s : State) : LineKept s (winchWriteChecks s) := by
  unfold Machine.winchWriteChecks
  refine trans ?_ (payoutChecks _)
  split
  · exact ⟨.refl s, rfl, rfl, rfl, s.disp.winchOp, rfl⟩
  · exact refl s

end LineKept

/-- A written limit acts on a MOVE and on RUN_OUT alone (R84, R90). -/
theorem winchWriteChecks_of_other {s : State} (hm : s.winch.state ≠ .move) (hr : s.winch.state ≠ .runOut) :
    winchWriteChecks s = s := by
  simp only [winchWriteChecks, hm, false_and, if_false]
  exact WinchBlock.payoutChecks_of_other hm hr

/-! ## The silence timers at a write (R173) -/

theorem timeoutWritten_get (l m : Link) (s : State) : (timeoutWritten l s).ports.get m =
    if m = l ∧ (s.ports.get m).link = .active then
      { s.ports.get m with silence := freshTimer (timeoutOf s.chassis.profile m) }
    else s.ports.get m := by
  by_cases hm : m = l
  · subst hm
    by_cases hlink : (s.ports.get m).link = .active <;> simp [timeoutWritten, hlink]
  · by_cases hlink : (s.ports.get l).link = .active <;> simp [timeoutWritten, hlink, hm, setPort_get_other]

/-- The three silence timers restarted. -/
def timersRestarted (s : State) : State := timeoutWritten .s (timeoutWritten .w (timeoutWritten .p s))

theorem timersRestarted_get (s : State) (m : Link) : (timersRestarted s).ports.get m =
    if (s.ports.get m).link = .active then
      { s.ports.get m with silence := freshTimer (timeoutOf s.chassis.profile m) }
    else s.ports.get m := by
  unfold timersRestarted
  cases m <;> simp [timeoutWritten_get]

/-! ## The effects of the restored fields (R183) -/

/-- The first effect: both pairs of angles held within A_lock (R70). -/
def anglesLocked (s : State) : State := { s with steer := lockClamp (s.chassis.profile.get .lockAngle) s.steer }

theorem restoredEffects_eq (s : State) : restoredEffects s = timersRestarted (winchWriteChecks (anglesLocked s)) := rfl

theorem restoredEffects_steer (s : State) :
    (restoredEffects s).steer = lockClamp (s.chassis.profile.get .lockAngle) s.steer := by
  simp [restoredEffects_eq, timersRestarted, anglesLocked]

theorem restoredEffects_winch (s : State) :
    (restoredEffects s).winch.tow = s.winch.tow ∧ (restoredEffects s).winch.count = s.winch.count ∧
      (restoredEffects s).winch.referenced = s.winch.referenced := by
  have k := LineKept.winchWriteChecks (anglesLocked s)
  simp only [restoredEffects_eq, timersRestarted, timeoutWritten_winch]
  exact ⟨k.tow, k.count, k.referenced⟩

/-- Of the dispatcher's records only the WINCH slot can change: the move in it may end. -/
theorem restoredEffects_disp (s : State) : ∃ op, (restoredEffects s).disp = { s.disp with winchOp := op } := by
  simp only [restoredEffects_eq, timersRestarted, timeoutWritten_disp]
  exact (LineKept.winchWriteChecks (anglesLocked s)).disp

theorem restoredEffects_of_other {s : State} (hm : s.winch.state ≠ .move) (hr : s.winch.state ≠ .runOut) :
    (restoredEffects s).winch = s.winch ∧ (restoredEffects s).disp = s.disp := by
  rw [restoredEffects_eq, winchWriteChecks_of_other (s := anglesLocked s) hm hr]
  simp [timersRestarted, anglesLocked]

theorem restoredEffects_port (s : State) (m : Link) :
    ((restoredEffects s).ports.get m).link = (s.ports.get m).link ∧ ((restoredEffects s).ports.get m).silence =
      if (s.ports.get m).link = .active then freshTimer (timeoutOf s.chassis.profile m) else (s.ports.get m).silence := by
  obtain ⟨-, -, -, -, hsilence, hlink, -⟩ := (LineKept.winchWriteChecks (anglesLocked s)).ports m
  have hlink' : ((winchWriteChecks (anglesLocked s)).ports.get m).link = (s.ports.get m).link := hlink
  rw [restoredEffects_eq, timersRestarted_get, winchWriteChecks_chassis, hlink']
  split
  · exact ⟨hlink, rfl⟩
  · exact ⟨hlink, hsilence⟩

/-! ## The restore (R157, R180, R183) -/

theorem tableOf_get (t : Vector PatternDef 16) (i : Fin 16) : (tableOf t)[i] = ⟨t[i], none⟩ := by
  simp [tableOf]

theorem defsOf_tableOf (t : Vector PatternDef 16) : defsOf (tableOf t) = t := by
  ext i hi
  simp [defsOf, tableOf]

/-- A reading of the image taken, and the restore posted to all three masters (R157, R183). -/
def imageTaken (i : Image) (s : State) : State := postAll .profileChanged (takeLoaded (readImage i) s)

theorem profileRestoreBody_of_settling {s : State} (h : s.chassis.imageState = .settling) (l : Link) (c : Command) :
    profileRestoreBody l c s = .check (.notReady .commitActive) none := if_pos h

theorem profileRestoreBody_of_ready {s : State} (h : s.chassis.imageState = .ready) (l : Link) (c : Command) :
    profileRestoreBody l c s = .good [byteOf (readImage s.chassis.image).status.code]
      (restoredEffects (imageTaken s.chassis.image s)) := by
  simp only [profileRestoreBody, h, reduceCtorEq, if_false]
  rfl

/-- CHASSIS has no last commander, so GOOD leaves what the execution left (R12). -/
theorem given_good_profileRestore (l : Link) (t u : Byte) (r q : State) (reply : List Byte) :
    given .profileRestore l t u r (.good reply q) = answered l t .good reply q := rfl

theorem statusByte_readImage (i : Image) : byteOf (readImage i).status.code = if i.good then 0 else 1 := by
  unfold readImage
  split <;> rfl

theorem imageTaken_chassis (i : Image) (s : State) : (imageTaken i s).chassis = { s.chassis with
    profile := (readImage i).profile, status := (readImage i).status, unsaved := false } := rfl

theorem imageTaken_lights (i : Image) (s : State) : (imageTaken i s).lights =
    restoreLights (readImage i).store (readImage i).table
      (patternsReplaced s.chassis.profile (readImage i).profile s.lights) := rfl

theorem readImage_of_good {i : Image} (h : i.good = true) :
    readImage i = ⟨i.contents.profile, i.contents.store, i.contents.table, .loaded⟩ := if_pos h

theorem readImage_of_bad {i : Image} (h : i.good = false) :
    readImage i = ⟨.defaults, zeroStore, Vector.replicate 16 .undefined, .defaults⟩ := if_neg (by simp [h])

theorem restoredEffects_clockKept (s : State) : clockKept s (restoredEffects s) :=
  ⟨restoredEffects_pending s, restoredEffects_powered s, restoredEffects_now s⟩

/-- Settles O35: the refusal, or the image taken with the effects of its fields. -/
theorem restoreTakesTheImage : Obligations.RestoreTakesTheImage := by
  intro l t u b s h r
  have hgiven : exec (.profileRestore l t u b) s =
      .next (given .profileRestore l t u r (profileRestoreBody l ⟨t, u, 0x06, b⟩ r)) := exec_given rfl h
  refine ⟨fun hs => ?_, fun hs => ?_⟩
  · rw [hgiven, profileRestoreBody_of_settling (s := r) hs, given_check]
  · rw [profileRestoreBody_of_ready (s := r) hs, given_good_profileRestore, statusByte_readImage,
      taken_chassis] at hgiven
    generalize s.chassis.image = i at hgiven ⊢
    obtain ⟨n, hn⟩ : ∃ n, n = restoredEffects (imageTaken i r) := ⟨_, rfl⟩
    have hchassis : n.chassis = (imageTaken i r).chassis := by rw [hn, restoredEffects_chassis]
    have hlights : n.lights = (imageTaken i r).lights := by rw [hn, restoredEffects_lights]
    have hsteer := restoredEffects_steer (imageTaken i r)
    obtain ⟨htow, hcount, hreferenced⟩ := restoredEffects_winch (imageTaken i r)
    obtain ⟨op, hdisp⟩ := restoredEffects_disp (imageTaken i r)
    have hwinch := restoredEffects_of_other (s := imageTaken i r)
    have hport := restoredEffects_port (imageTaken i r)
    have hdrive := restoredEffects_drive (imageTaken i r)
    have hwheels := restoredEffects_wheels (imageTaken i r)
    have hsupply := restoredEffects_supply (imageTaken i r)
    have halloc := restoredEffects_alloc (imageTaken i r)
    have hclock := restoredEffects_clockKept (imageTaken i r)
    rw [← hn] at hsteer htow hcount hreferenced hdisp hwinch hport hdrive hwheels hsupply halloc hclock
    have htaken : imageTaken i r = { r with
        chassis := n.chassis
        lights := n.lights
        disp := { s.disp with attention := s.disp.attention.map fun _ q => postKind .profileChanged q } } := by
      rw [hchassis, hlights]
      rfl
    have hprofile : n.chassis.profile = (readImage i).profile := by rw [hchassis, imageTaken_chassis]
    rw [imageTaken_chassis] at hchassis
    rw [imageTaken_lights, patternsReplaced_eq] at hlights
    refine ⟨n, imageTaken i r, hn ▸ hgiven, fun hg => ?_, fun hb => ?_, fun j => ?_, ?_, fun m => ?_, ?_, ?_, ?_, ?_,
      ?_, hdrive, hwheels, hsupply, halloc, ?_, htow, hcount, hreferenced, fun hm hr => ?_, fun m => ?_, htaken, hn, hclock⟩
    · rw [readImage_of_good hg] at hchassis hlights
      exact ⟨hchassis, congrArg Lights.store hlights, (congrArg (defsOf ·.table) hlights).trans (defsOf_tableOf _)⟩
    · rw [readImage_of_bad hb] at hchassis hlights
      exact ⟨hchassis, congrArg Lights.store hlights, (congrArg (defsOf ·.table) hlights).trans (defsOf_tableOf _)⟩
    · rw [hlights]
      exact congrArg Record.openBy (tableOf_get (readImage i).table j)
    · rw [hlights, hprofile]
      rfl
    · rw [hdisp]
      exact PerLink.get_map s.disp.attention (fun _ q => postKind .profileChanged q) m
    iterate 5
      · rw [hdisp]
        rfl
    · rw [hsteer, hprofile]
      rfl
    · obtain ⟨hw, hd⟩ := hwinch hm hr
      refine ⟨hw, ?_⟩
      rw [hd]
      rfl
    · rw [hprofile]
      exact hport m

end Sys2Proof.Machine.LightEngine
end

section
/-! The light frame boundary as one move of each layer: ALERT and SIGNAL by themselves, and the BASE record by itself
(R141). -/

namespace Sys2Proof.Machine.LightEngine

/-! ## What each step writes -/

theorem finishEnded_eq (x : Lights) : finishEnded x = { x with base := (finishEnded x).base } := by
  unfold finishEnded
  split
  · split <;> rfl
  · rfl

theorem switchStaged_eq (x : Lights) (g : Staged) : switchStaged x g = { x with base := (switchStaged x g).base } := by
  unfold switchStaged
  dsimp only
  split <;> rfl

theorem switchStep_eq (x : Lights) : switchStep x = { x with base := (switchStep x).base } := by
  have hended := finishEnded_eq x
  unfold switchStep
  generalize finishEnded x = y at hended
  dsimp only
  split
  · split
    · exact hended
    · rw [switchStaged_eq, hended]
  · exact hended

theorem alertStep_eq (p : Profile) (u : LightInputs) (x : Lights) :
    (alertStep p u x).1 = { x with alert := (alertStep p u x).1.alert } := by
  unfold alertStep
  split
  · rfl
  · dsimp only
    split <;> rfl

theorem advanceBase_eq (x : Lights) : (advanceBase x).1 = { x with base := (advanceBase x).1.base } := by
  unfold advanceBase
  split <;> rfl

theorem fadeStep_eq (x : Lights) : (fadeStep x).1 = { x with base := (fadeStep x).1.base } := by
  unfold fadeStep
  split
  · split <;> rfl
  · rfl

/-! ## The layers apart -/

/-- The ALERT layer does not depend on BASE. -/
theorem alertStep_setBase (p : Profile) (u : LightInputs) (x : Lights) (b : Base) :
    alertStep p u { x with base := b } = ({ (alertStep p u x).1 with base := b }, (alertStep p u x).2) := by
  unfold alertStep
  split
  · rfl
  · dsimp only
    split <;> rfl

/-- SIGNAL depends neither on BASE nor on ALERT. -/
theorem signalStep_set (p : Profile) (u : LightInputs) (x : Lights) (b : Base) (a : AlertLayer) :
    signalStep p u { x with base := b, alert := a } =
      ({ (signalStep p u x).1 with base := b, alert := a }, (signalStep p u x).2) := by
  unfold signalStep
  cases x.mode <;> rfl

/-- The BASE record depends on nothing but itself and the pattern table. -/
theorem advanceBase_congr {x y : Lights} (hb : y.base = x.base) (ht : y.table = x.table) :
    (advanceBase y).1.base = (advanceBase x).1.base ∧ (advanceBase y).2 = (advanceBase x).2 := by
  obtain ⟨⟩ := x
  obtain ⟨⟩ := y
  obtain rfl := hb
  obtain rfl := ht
  unfold advanceBase
  dsimp only
  split <;> exact ⟨rfl, rfl⟩

theorem fadeStep_congr {x y : Lights} (hb : y.base = x.base) (ht : y.table = x.table) :
    (fadeStep y).1.base = (fadeStep x).1.base ∧ (fadeStep y).2 = (fadeStep x).2 := by
  obtain ⟨⟩ := x
  obtain ⟨⟩ := y
  obtain rfl := hb
  obtain rfl := ht
  unfold fadeStep
  dsimp only
  split
  · split <;> exact ⟨rfl, rfl⟩
  · exact ⟨rfl, rfl⟩

/-- What steps 2 and 3 make of the BASE record, whether a countdown of it reached 0, and whether its fade ended. -/
def basePlayed (x : Lights) : Base × Bool × Bool :=
  ((fadeStep (advanceBase x).1).1.base, (advanceBase x).2, (fadeStep (advanceBase x).1).2)

/-- Steps 1 to 3 of the BASE record. -/
def baseMoved (x : Lights) : Base × Bool × Bool := basePlayed (switchStep x)

theorem basePlayed_lights (x : Lights) : (fadeStep (advanceBase x).1).1 = { x with base := (basePlayed x).1 } := by
  rw [fadeStep_eq, basePlayed]
  generalize (fadeStep (advanceBase x).1).1.base = b
  rw [advanceBase_eq]

theorem basePlayed_congr {x y : Lights} (hb : y.base = x.base) (ht : y.table = x.table) :
    basePlayed y = basePlayed x := by
  obtain ⟨hbase, hcounted⟩ := advanceBase_congr hb ht
  have htable : (advanceBase y).1.table = (advanceBase x).1.table := by
    rw [advanceBase_eq y, advanceBase_eq x]
    exact ht
  obtain ⟨hfaded, hended⟩ := fadeStep_congr hbase htable
  simp only [basePlayed, hfaded, hcounted, hended]

theorem signalStep_table (p : Profile) (u : LightInputs) (x : Lights) : (signalStep p u x).1.table = x.table := by
  unfold signalStep
  split <;> rfl

theorem signalStep_store (p : Profile) (u : LightInputs) (x : Lights) : (signalStep p u x).1.store = x.store := by
  unfold signalStep
  split <;> rfl

/-- Step 2 of ALERT and SIGNAL after step 1. -/
theorem layers_eq (p : Profile) (u : LightInputs) (x : Lights) :
    signalStep p u (alertStep p u (switchStep x)).1 =
      ({ (signalStep p u x).1 with base := (switchStep x).base, alert := (alertStep p u x).1.alert },
        (signalStep p u x).2) := by
  rw [switchStep_eq x, alertStep_setBase, alertStep_eq]
  exact signalStep_set p u x (switchStep x).base (alertStep p u x).1.alert

theorem basePlayed_layers (p : Profile) (u : LightInputs) (x : Lights) :
    basePlayed (signalStep p u (alertStep p u (switchStep x)).1).1 = baseMoved x := by
  rw [layers_eq]
  refine basePlayed_congr rfl ?_
  rw [switchStep_eq x]
  exact signalStep_table p u x

/-- Steps 1 to 3: each layer moves by itself (R141). -/
theorem boundaryPlay_lights (p : Profile) (u : LightInputs) (x : Lights) :
    (boundaryPlay p u x).1 = { (signalStep p u x).1 with
      alert := (alertStep p u x).1.alert
      base := (baseMoved x).1 } := by
  unfold boundaryPlay
  dsimp only
  rw [basePlayed_lights, basePlayed_layers, layers_eq]

/-- A fade ends at a boundary when it ends in the BASE record. -/
theorem boundaryPlay_ended (p : Profile) (u : LightInputs) (x : Lights) :
    (boundaryPlay p u x).2.2 = (baseMoved x).2.2 := by
  rw [← basePlayed_layers p u x]
  rfl

/-- A countdown of the BASE record that reaches 0 is one of the boundary's. -/
theorem boundaryPlay_counted {p : Profile} {u : LightInputs} {x : Lights}
    (h : (baseMoved x).2.1 = true) : (boundaryPlay p u x).2.1 = true := by
  rw [← basePlayed_layers p u x] at h
  exact Bool.or_eq_true_iff.mpr (.inr h)

/-! ## The boundary in the part -/

/-- The lights that a boundary leaves. -/
def boundaryLights (s : State) : Lights :=
  composeStep s.chassis.profile s.alloc.gL (boundaryPlay s.chassis.profile (lightInputs s) s.lights).1

theorem lightBoundary_fst (s : State) : (lightBoundary s).1 =
    if (baseMoved s.lights).2.2 = true then endOp .lights .good { s with lights := boundaryLights s }
    else { s with lights := boundaryLights s } := by
  rw [← boundaryPlay_ended s.chassis.profile (lightInputs s)]
  rfl

theorem lightBoundary_lights (s : State) : (lightBoundary s).1.lights = boundaryLights s := by
  rw [lightBoundary_fst]
  split
  · rw [endOp_lights]
  · rfl

theorem lightBoundary_portsKept (s : State) : portsKept s (lightBoundary s).1 := by
  rw [lightBoundary_fst]
  split
  · exact endOp_portsKept .lights .good { s with lights := boundaryLights s }
  · exact .refl s

theorem boundaryLights_base (s : State) : (boundaryLights s).base = (baseMoved s.lights).1 := by
  change (boundaryPlay s.chassis.profile (lightInputs s) s.lights).1.base = _
  rw [boundaryPlay_lights]

theorem exec_lightFrameBoundary {s : State} (h : s.powered = true) :
    exec .lightFrameBoundary s = .next (arbitrate (lightBoundary s).1) :=
  event_powered (f := fun s => (lightBoundary s).1) h

theorem mem_happenings_fadeEnded {s : State} (h : (baseMoved s.lights).2.2 = true) :
    LightHappening.fadeEnded ∈ (lightBoundary s).2 := by
  rw [← boundaryPlay_ended s.chassis.profile (lightInputs s)] at h
  simp [lightBoundary, h]

theorem mem_happenings_countdownReached {s : State} (h : (baseMoved s.lights).2.1 = true) :
    LightHappening.countdownReached ∈ (lightBoundary s).2 := by
  simp [lightBoundary, boundaryPlay_counted h]

/-- A row that names an outcome is the boundary that brings it about (log entry 3). -/
theorem exec_fadeEnd {s : State} (hp : s.powered = true) (h : (baseMoved s.lights).2.2 = true) :
    exec .fadeEnd s = .next (arbitrate (lightBoundary s).1) :=
  (event_powered hp).trans (by rw [eventWhen, if_pos (mem_happenings_fadeEnded h)])

theorem exec_playbackCountdown {s : State} (hp : s.powered = true)
    (h : (baseMoved s.lights).2.1 = true) :
    exec .playbackCountdown s = .next (arbitrate (lightBoundary s).1) :=
  (event_powered hp).trans (by rw [eventWhen, if_pos (mem_happenings_countdownReached h)])

theorem boundaryLights_store (s : State) : (boundaryLights s).store = s.lights.store := by
  change (boundaryPlay s.chassis.profile (lightInputs s) s.lights).1.store = _
  rw [boundaryPlay_lights]
  exact signalStep_store _ _ _

theorem boundaryLights_table (s : State) : (boundaryLights s).table = s.lights.table := by
  change (boundaryPlay s.chassis.profile (lightInputs s) s.lights).1.table = _
  rw [boundaryPlay_lights]
  exact signalStep_table _ _ _

theorem exec_lightFrameBoundary_of_going {s : State} (hp : s.powered = true)
    (h : (baseMoved s.lights).2.2 = false) :
    exec .lightFrameBoundary s = .next (arbitrate { s with lights := boundaryLights s }) := by
  rw [exec_lightFrameBoundary hp, lightBoundary_fst, if_neg (ne_true_of_eq_false h)]

theorem exec_lightFrameBoundary_of_ended {s : State} (hp : s.powered = true)
    (h : (baseMoved s.lights).2.2 = true) :
    exec .lightFrameBoundary s = .next (arbitrate (endOp .lights .good { s with lights := boundaryLights s })) := by
  rw [exec_lightFrameBoundary hp, lightBoundary_fst, if_pos h]

end Sys2Proof.Machine.LightEngine
end

section
/-! The BASE record at a boundary: playback, the staged source and the fade (R140, R145 to R147). -/

namespace Sys2Proof.Machine.LightEngine

/-! ## Playback (R140) -/

theorem conform_eq (d : PatternDef) (y : Playback) :
    let beyond := decide (d.count ≤ y.step)
    let last : Nat := if d.action = .loop then 0 else d.count - 1
    y.conform d = ⟨if beyond = true then last else y.step,
      if beyond = true ∧ d.action ≠ .loop then 0 else min y.countdown d.stepTime⟩ := by
  intro beyond last
  by_cases hbeyond : d.count ≤ y.step
  · cases haction : d.action <;> simp [Playback.conform, Playback.atEnd, beyond, last, hbeyond, haction]
  · simp [Playback.conform, beyond, hbeyond]

theorem advance_of_undefined {d : PatternDef} (h : d.defined = false) (y : Playback) :
    y.advance d = (⟨0, y.countdown⟩, false) := if_neg (by simp [h])

theorem advance_of_defined {d : PatternDef} (h : d.defined = true) (y : Playback) : y.advance d =
    if (y.conform d).countdown = 0 then (y.conform d, false)
    else if (y.conform d).countdown = 1 then
      (if (y.conform d).step + 1 < d.count then ⟨(y.conform d).step + 1, d.stepTime⟩ else .atEnd d d.stepTime, true)
    else (⟨(y.conform d).step, (y.conform d).countdown - 1⟩, false) := if_pos h

theorem atEnd_eq (d : PatternDef) (k : Nat) :
    Playback.atEnd d k = if d.action = .loop then ⟨0, k⟩ else ⟨d.count - 1, 0⟩ := by
  cases h : d.action <;> simp [Playback.atEnd, h]

/-- A countdown of 1 reaches 0 within the record (R140). -/
theorem advance_of_due {d : PatternDef} {step : Nat} (hd : d.defined = true) (hs : step < d.count)
    (ht : 1 ≤ d.stepTime) : Playback.advance d ⟨step, 1⟩ =
      (if step + 1 < d.count then ⟨step + 1, d.stepTime⟩
        else if d.action = .loop then ⟨0, d.stepTime⟩ else ⟨d.count - 1, 0⟩, true) := by
  have hconform : Playback.conform d ⟨step, 1⟩ = ⟨step, 1⟩ := by simp [Playback.conform, Nat.not_le.mpr hs, ht]
  rw [advance_of_defined hd, hconform, atEnd_eq]
  rfl

theorem Live.start_eq (x : Lights) (source : Source) (step : Nat) (fresh : Bool) : Live.start x source step fresh =
    match source with
    | .pattern k => ⟨.pattern k, ⟨min step ((x.defn k).count - 1), (x.defn k).stepTime⟩, fresh⟩
    | .level v => ⟨.level v, ⟨0, 0⟩, fresh⟩ := by
  cases source <;> rfl

theorem Live.advance_eq (x : Lights) (v : Live) : (v.advance x).1 =
    if v.fresh = true then Live.start x v.source v.play.step false
    else match v.source with
      | .pattern k => { v with play := (v.play.advance (x.defn k)).1 }
      | .level _ => v := by
  unfold Live.advance
  split
  · rfl
  · cases v.source <;> rfl

/-- A source started at step 1 only becomes final at step 2, whatever the switch has made of the record (R140, R145). -/
theorem advance_started (x : Lights) (b : Base) (source : Source) (step : Nat) :
    ((Live.start x source step true).advance { x with base := b }).1 = Live.start x source step false :=
  Live.advance_start x source step

/-! ## Steps 2 and 3 of the BASE record (R140, R146, R147) -/

section

variable {x : Lights} {f : Fade}

theorem basePlayed_of_live (h : x.base.fade = none) : basePlayed x =
    (⟨(x.base.live.advance x).1, x.base.staged, none⟩, (x.base.live.advance x).2, false) := by
  simp only [basePlayed, advanceBase, fadeStep, h]

/-- A fade that reaches its last position ends (R146, R147). -/
theorem basePlayed_of_ending (h : x.base.fade = some f) (hk : f.n ≤ f.k + 1) :
    (basePlayed x).1 = ⟨if f.kind = .fade then (f.incoming.advance x).1
      else Live.start x f.incoming.source f.startStep false, x.base.staged, none⟩ ∧ (basePlayed x).2.2 = true := by
  simp only [basePlayed, advanceBase, fadeStep, h, hk, if_true]
  cases f.kind <;> exact ⟨rfl, trivial⟩

theorem basePlayed_of_going (h : x.base.fade = some f) (hk : f.k + 1 < f.n) :
    (basePlayed x).1 = ⟨x.base.live, x.base.staged, some { f with
      k := f.k + 1
      outgoing := (f.outgoing.advance x).1
      incoming := if f.kind = .fade then (f.incoming.advance x).1 else f.incoming }⟩ ∧
      (basePlayed x).2.2 = false := by
  simp only [basePlayed, advanceBase, fadeStep, h, Nat.not_le.mpr hk, if_false]
  cases f.kind <;> exact ⟨rfl, trivial⟩

/-! ## Step 1: the switch (R145) -/

theorem finishEnded_of_unmarked (h : ∀ f, x.base.fade = some f → f.ended = false) : finishEnded x = x := by
  unfold finishEnded
  split
  · next f hf => simp [h f hf]
  · rfl

/-- The lights in which a fade is finished, its incoming source live (R145). -/
def fadeFinished (x : Lights) (f : Fade) : Lights := { x with
  base := ⟨if f.kind = .fade then f.incoming else Live.start x f.incoming.source f.startStep true,
    x.base.staged, none⟩ }

theorem finishEnded_of_marked (h : x.base.fade = some f) (he : f.ended = true) :
    finishEnded x = fadeFinished x f := by
  simp only [finishEnded, h, he, if_true, fadeFinished]
  cases f.kind <;> rfl

theorem switchStep_of_unstaged (hs : x.base.staged = none) (hf : ∀ f, x.base.fade = some f → f.ended = false) :
    switchStep x = x := by
  simp only [switchStep, finishEnded_of_unmarked hf, hs]

/-- With a fade marked ended the switch is that of the record in which the fade is finished. -/
theorem switchStep_of_marked (h : x.base.fade = some f) (he : f.ended = true) :
    switchStep x = switchStep (fadeFinished x f) := by
  unfold switchStep
  rw [finishEnded_of_marked h he, finishEnded_of_unmarked (by simp [fadeFinished])]

theorem switchStep_of_staged {g : Staged} (hs : x.base.staged = some g) (hf : x.base.fade = none) :
    switchStep x = if stagedOpen x g = true then x else switchStaged x g := by
  have hunmarked : finishEnded x = x := finishEnded_of_unmarked (by simp [hf])
  simp only [switchStep, hunmarked, hs]

/-- A CUT makes the staged source live at its start step (R145, R146). -/
theorem basePlayed_of_cut {g : Staged} (ht : g.transition = .cut) (hf : x.base.fade = none) :
    (basePlayed (switchStaged x g)).1 = ⟨Live.start x g.source g.startStep false, none, none⟩ ∧
      (basePlayed (switchStaged x g)).2.2 = false := by
  have hfade : (switchStaged x g).base.fade = none := by simp only [switchStaged, ht, hf]
  rw [basePlayed_of_live hfade]
  simp only [switchStaged, ht, advance_started, and_self]

/-- The fade that a FADE or FILL creates at its switch, at position 0 (R145). -/
def fadeOf (x : Lights) (g : Staged) : Option Fade :=
  match g.transition with
  | .cut => none
  | .fade n => some ⟨.fade, x.base.live, Live.start x g.source g.startStep true, g.startStep, n, 0, 0, false⟩
  | .fill n level => some ⟨.fill, x.base.live, ⟨g.source, ⟨0, 0⟩, false⟩, g.startStep, n, level, 0, false⟩

theorem switchStaged_of_fade {g : Staged} (h : fadeOf x g = some f) :
    switchStaged x g = { x with base := ⟨x.base.live, none, some f⟩ } := by
  unfold fadeOf at h
  split at h
  · cases h
  all_goals
    next ht =>
    simp only [switchStaged, ht, ← h]

theorem fade_of_fadeOf {g : Staged} (h : fadeOf x g = some f) :
    f.k = 0 ∧ f.startStep = g.startStep ∧ f.incoming.source = g.source ∧
      (f.kind = .fade → f.incoming = Live.start x g.source g.startStep true) := by
  unfold fadeOf at h
  split at h
  · cases h
  · obtain rfl := Option.some.inj h
    exact ⟨rfl, rfl, Live.start_source .., fun _ => rfl⟩
  · obtain rfl := Option.some.inj h
    exact ⟨rfl, rfl, rfl, nofun⟩

/-- A transition of a single boundary ends where it is created (R146, R147). -/
theorem basePlayed_of_single {g : Staged} (h : fadeOf x g = some f) (hn : f.n ≤ 1) :
    (basePlayed (switchStaged x g)).1 = ⟨Live.start x g.source g.startStep false, none, none⟩ ∧
      (basePlayed (switchStaged x g)).2.2 = true := by
  obtain ⟨hk, hstep, hsource, hincoming⟩ := fade_of_fadeOf h
  have hswitch := switchStaged_of_fade h
  obtain ⟨hbase, hended⟩ := basePlayed_of_ending (congrArg (·.base.fade) hswitch) (by omega)
  refine ⟨?_, hended⟩
  rw [hbase, hswitch]
  by_cases hkind : f.kind = .fade
  · rw [if_pos hkind, hincoming hkind, advance_started]
  · rw [if_neg hkind, hstep, hsource]
    rfl

/-- A longer transition is in flight at position 1 after the boundary that creates it (R145, R146). -/
theorem basePlayed_of_longer {g : Staged} (h : fadeOf x g = some f) (hn : 1 < f.n) :
    (basePlayed (switchStaged x g)).1 = ⟨x.base.live, none, some { f with
      k := 1
      outgoing := (f.outgoing.advance x).1
      incoming := if f.kind = .fade then Live.start x g.source g.startStep false else f.incoming }⟩ ∧
      (basePlayed (switchStaged x g)).2.2 = false := by
  obtain ⟨hk, -, -, hincoming⟩ := fade_of_fadeOf h
  have hswitch := switchStaged_of_fade h
  obtain ⟨hbase, hended⟩ := basePlayed_of_going (congrArg (·.base.fade) hswitch) (by omega)
  refine ⟨?_, hended⟩
  rw [hbase, hswitch, hk]
  by_cases hkind : f.kind = .fade
  · rw [if_pos hkind, if_pos hkind, hincoming hkind, advance_started]
    rfl
  · rw [if_neg hkind, if_neg hkind]
    rfl

end

/-! ## The whole boundary of the BASE record (R141) -/

/-- Whether a transition lasts a single boundary. -/
def lastsOne (t : Transition) : Bool :=
  match t with
  | .cut => false
  | .fade k => decide (k ≤ 1)
  | .fill k _ => decide (k ≤ 1)

theorem lastsOne_of_fadeOf {x : Lights} {g : Staged} {f : Fade} (h : fadeOf x g = some f) :
    lastsOne g.transition = decide (f.n ≤ 1) := by
  unfold fadeOf at h
  split at h
  · cases h
  all_goals
    next ht =>
    rw [ht, ← Option.some.inj h]
    rfl

theorem cut_of_fadeOf {x : Lights} {g : Staged} (h : fadeOf x g = none) : g.transition = .cut := by
  unfold fadeOf at h
  split at h
  · assumption
  all_goals cases h

section

variable {x : Lights} {g : Staged}

/-- A transition of a single boundary ends in it, and no other does. -/
theorem basePlayed_switched_ended (hf : x.base.fade = none) :
    (basePlayed (switchStaged x g)).2.2 = lastsOne g.transition := by
  cases hfade : fadeOf x g with
  | none =>
    have ht := cut_of_fadeOf hfade
    obtain ⟨-, hended⟩ := basePlayed_of_cut ht hf
    rw [hended, ht, lastsOne]
  | some f =>
    rw [lastsOne_of_fadeOf hfade]
    by_cases hn : f.n ≤ 1
    · obtain ⟨-, hended⟩ := basePlayed_of_single hfade hn
      rw [hended, decide_eq_true hn]
    · obtain ⟨-, hended⟩ := basePlayed_of_longer hfade (by omega)
      rw [hended, decide_eq_false hn]

theorem basePlayed_switched_live (hf : x.base.fade = none) (h : g.transition = .cut ∨ lastsOne g.transition = true) :
    (basePlayed (switchStaged x g)).1 = ⟨Live.start x g.source g.startStep false, none, none⟩ := by
  cases hfade : fadeOf x g with
  | none => exact (basePlayed_of_cut (cut_of_fadeOf hfade) hf).1
  | some f =>
    have hlasts : lastsOne g.transition = true := by
      rcases h with h | h
      · simp [fadeOf, h] at hfade
      · exact h
    rw [lastsOne_of_fadeOf hfade] at hlasts
    exact (basePlayed_of_single hfade (of_decide_eq_true hlasts)).1

theorem baseMoved_of_unstaged (hs : x.base.staged = none) (hf : ∀ f, x.base.fade = some f → f.ended = false) :
    baseMoved x = basePlayed x := by
  rw [baseMoved, switchStep_of_unstaged hs hf]

theorem baseMoved_of_open (hs : x.base.staged = some g) (hf : x.base.fade = none) (h : stagedOpen x g = true) :
    baseMoved x = basePlayed x := by
  rw [baseMoved, switchStep_of_staged hs hf, if_pos h]

theorem baseMoved_of_closed (hs : x.base.staged = some g) (hf : x.base.fade = none) (h : stagedOpen x g = false) :
    baseMoved x = basePlayed (switchStaged x g) := by
  rw [baseMoved, switchStep_of_staged hs hf, if_neg (ne_true_of_eq_false h)]

/-- The fade of a boundary ends in it when the staged source is switched and its transition lasts one boundary. -/
theorem baseMoved_ended (hs : x.base.staged = some g) (hf : x.base.fade = none) :
    (baseMoved x).2.2 = (!stagedOpen x g && lastsOne g.transition) := by
  cases h : stagedOpen x g with
  | true => simp only [baseMoved_of_open hs hf h, basePlayed_of_live hf, Bool.not_true, Bool.false_and]
  | false => simp only [baseMoved_of_closed hs hf h, basePlayed_switched_ended hf, Bool.not_false, Bool.true_and]

end

/-- A countdown of the live source, with nothing staged and no fade (R140). -/
theorem basePlayed_of_countdown {x : Lights} {k step : Nat} (hs : x.base.staged = none) (hf : x.base.fade = none)
    (hl : x.base.live = ⟨.pattern k, ⟨step, 1⟩, false⟩) (hd : (x.defn k).defined = true)
    (hstep : step < (x.defn k).count) (ht : 1 ≤ (x.defn k).stepTime) :
    basePlayed x = (⟨⟨.pattern k,
      if step + 1 < (x.defn k).count then ⟨step + 1, (x.defn k).stepTime⟩
      else if (x.defn k).action = .loop then ⟨0, (x.defn k).stepTime⟩ else ⟨(x.defn k).count - 1, 0⟩, false⟩,
      none, none⟩, true, false) := by
  rw [basePlayed_of_live hf, hs, hl]
  simp only [Live.advance, Bool.false_eq_true, if_false, advance_of_due hd hstep ht]

/-- A boundary of a record with a fade marked ended is that of the record in which the fade is finished (R145). -/
theorem lightBoundary_of_marked {s : State} {f : Fade} (h : s.lights.base.fade = some f) (he : f.ended = true) :
    lightBoundary s = lightBoundary { s with lights := fadeFinished s.lights f } := by
  have hplay : boundaryPlay s.chassis.profile (lightInputs s) s.lights =
      boundaryPlay s.chassis.profile (lightInputs s) (fadeFinished s.lights f) := by
    unfold boundaryPlay
    rw [switchStep_of_marked h he]
  unfold lightBoundary
  dsimp only
  rw [hplay]
  rfl

/-! ## The statement -/

/-- The advance of a playback by what is left of its countdown (R140). -/
theorem advance_by_left (d : PatternDef) (y : Playback) :
    let beyond := decide (d.count ≤ y.step)
    let last : Nat := if d.action = .loop then 0 else d.count - 1
    let step := if beyond = true then last else y.step
    let left := if beyond = true ∧ d.action ≠ .loop then 0 else min y.countdown d.stepTime
    d.defined = true → (y.advance d).1 =
      if left = 0 then ⟨step, 0⟩
      else if left = 1 then
        if step + 1 < d.count then ⟨step + 1, d.stepTime⟩
        else if d.action = .loop then ⟨0, d.stepTime⟩ else ⟨d.count - 1, 0⟩
      else ⟨step, left - 1⟩ := by
  intro beyond last step left hd
  have hconform : y.conform d = ⟨step, left⟩ := conform_eq d y
  rw [advance_of_defined hd, hconform, atEnd_eq]
  dsimp only
  split
  · next h => rw [h]
  · split <;> rfl

/-- Settles O53: the record's move by its cases, and the advances and starts as equations. -/
theorem boundaryMovesTheBaseRecord : Obligations.BoundaryMovesTheBaseRecord := by
  refine ⟨fun k step s hp hs hf hl => ?_, fun f s hp hs hf he hk => ?_, fun g s hp hs hf => ?_,
    fun s hp hs => ⟨fun hf => ?_, fun f hf he hk => ?_⟩, fun f s hp hf he => ?_, Live.start_eq, Live.advance_eq,
    fun d y => ?_⟩
  · intro d hd hstep ht
    have hmoved := (baseMoved_of_unstaged hs (by simp [hf])).trans (basePlayed_of_countdown hs hf hl hd hstep ht)
    have hexec := exec_playbackCountdown hp (by rw [hmoved])
    rw [lightBoundary_fst, hmoved, if_neg Bool.false_ne_true] at hexec
    refine ⟨_, hexec, exec_lightFrameBoundary_of_going hp (by rw [hmoved]), ?_, boundaryLights_store s,
      boundaryLights_table s, rfl, rfl, rfl⟩
    exact (boundaryLights_base s).trans (congrArg Prod.fst hmoved)
  · have hmoved := baseMoved_of_unstaged hs (by simp [hf, he])
    obtain ⟨hbase, hended⟩ := basePlayed_of_ending hf hk
    rw [← hmoved] at hbase hended
    have hfadeEnd : exec .lightFrameBoundary s = exec .fadeEnd s := by
      rw [exec_lightFrameBoundary hp, exec_fadeEnd hp hended]
    have hx := (boundaryLights_base s).trans hbase
    refine ⟨boundaryLights s, hfadeEnd ▸ exec_lightFrameBoundary_of_ended hp hended, hfadeEnd, ?_, ?_,
      fun hkind => ?_, fun hkind => ?_⟩
    all_goals rw [hx]
    · exact hs
    · exact if_pos hkind
    · exact if_neg (by simp [hkind])
  · intro isOpen single old new
    have hended : (baseMoved s.lights).2.2 = true ↔ isOpen = false ∧ single = true := by
      rw [baseMoved_ended hs hf, Bool.and_eq_true, Bool.not_eq_true']
      rfl
    have hclosed (h : isOpen = false) : (boundaryLights s).base = (basePlayed (switchStaged s.lights g)).1 :=
      (boundaryLights_base s).trans (congrArg Prod.fst (baseMoved_of_closed hs hf h))
    have hlonger {f : Fade} (h : isOpen = false) (hfade : fadeOf s.lights g = some f) (hn : 1 < f.n) :
        (boundaryLights s).base = ⟨s.lights.base.live, none, some { f with
          k := 1
          outgoing := (f.outgoing.advance s.lights).1
          incoming := if f.kind = .fade then new else f.incoming }⟩ :=
      (hclosed h).trans (basePlayed_of_longer hfade hn).1
    refine ⟨boundaryLights s, ?_, fun h => ?_, fun h ht => ?_, fun k h ht hk => ?_, fun k v h ht hk => ?_⟩
    · simp only [exec_lightFrameBoundary hp, lightBoundary_fst, hended]
    · rw [boundaryLights_base, baseMoved_of_open hs hf h, basePlayed_of_live hf, hs]
    · exact (hclosed h).trans (basePlayed_switched_live hf ht)
    · exact hlonger h (by rw [fadeOf, ht]) hk
    · exact hlonger h (by rw [fadeOf, ht]) hk
  · have hmoved := (baseMoved_of_unstaged hs (by simp [hf])).trans (basePlayed_of_live hf)
    rw [hs] at hmoved
    exact ⟨boundaryLights s, exec_lightFrameBoundary_of_going hp (by rw [hmoved]),
      (boundaryLights_base s).trans (congrArg Prod.fst hmoved)⟩
  · have hmoved := baseMoved_of_unstaged hs (by simp [hf, he])
    obtain ⟨hbase, hgoing⟩ := basePlayed_of_going hf hk
    rw [← hmoved] at hbase hgoing
    refine ⟨boundaryLights s, exec_lightFrameBoundary_of_going hp hgoing, ?_⟩
    rw [boundaryLights_base, hbase, hs]
  · rw [exec_lightFrameBoundary hp, lightBoundary_of_marked hf he]
    exact (exec_lightFrameBoundary (s := { s with lights := fadeFinished s.lights f }) hp).symm
  · intro beyond last step left
    have hleft : d.defined = true → (y.advance d).1 =
        if left = 0 then ⟨step, 0⟩
        else if left = 1 then
          if step + 1 < d.count then ⟨step + 1, d.stepTime⟩
          else if d.action = .loop then ⟨0, d.stepTime⟩ else ⟨d.count - 1, 0⟩
        else ⟨step, left - 1⟩ := advance_by_left d y
    clear_value left step
    refine ⟨fun hd => ?_, fun hd h => ?_, fun hd h => ?_, fun hd h hs => ?_, fun hd h hs => ?_⟩
    · rw [advance_of_undefined hd]
    · exact (hleft hd).trans (if_pos h)
    · exact (hleft hd).trans ((if_neg (by omega)).trans (if_neg (by omega)))
    · exact (hleft hd).trans ((if_neg (by omega)).trans ((if_pos h).trans (if_pos hs)))
    · exact (hleft hd).trans ((if_neg (by omega)).trans ((if_pos h).trans (if_neg (by omega))))

end Sys2Proof.Machine.LightEngine
end

section
/-! The layers at a boundary: composition, the selected alert, and the sources of SIGNAL (R142, R146, R149 to R156). -/

namespace Sys2Proof.Machine.LightEngine

/-! ## The value of a channel (R142, R146, R149, R150, R152, R153) -/

theorem overPass_eq (upper lower : Nat) : overPass upper lower = if upper ≠ 255 then upper else lower := by
  rw [overPass, passValue, ite_not]

theorem composedValue_eq (x : Lights) (c : Nat) : composedValue x c =
    if alertValue x c ≠ 255 then alertValue x c
    else if signalValue x c ≠ 255 then signalValue x c else baseValue x c := by
  rw [composedValue, overPass_eq, overPass_eq]

theorem alertValue_eq (x : Lights) (c : Nat) : alertValue x c =
    if x.alert.selected = none then 255 else patternValue x x.alert.pattern x.alert.play c := by
  cases h : x.alert.selected <;> simp [alertValue, h, passValue]

theorem signalValue_eq (x : Lights) (c : Nat) : signalValue x c = match x.mode with
    | .auto =>
      if autoValue x x.indicator x.mirrored c ≠ 255 then autoValue x x.indicator x.mirrored c
      else if autoValue x x.brake false c ≠ 255 then autoValue x x.brake false c else autoValue x x.reverse false c
    | .manual => match x.overlay.pattern with
      | some k => mirroredValue x x.overlay.mirrored k x.overlay.play c
      | none => passValue := by
  unfold signalValue
  cases x.mode with
  | auto => rw [overPass_eq, overPass_eq]
  | manual => rfl

theorem baseValue_eq (x : Lights) (c : Nat) : baseValue x c = match x.base.fade with
    | none => x.base.live.value x c
    | some f =>
      (f.outgoing.value x c * (32 - blendWeight f.k f.n) +
        (if f.kind = .fade then f.incoming.value x c else f.fillLevel) * blendWeight f.k f.n + 16) / 32 := by
  unfold baseValue
  cases x.base.fade with
  | none => rfl
  | some f => cases hkind : f.kind <;> simp [hkind]

/-! ## Steps 4 to 6 (R153 to R155) -/

theorem boundaryLights_composed (s : State) (c : Fin 24) :
    (boundaryLights s).composed[c] = composedValue (boundaryLights s) c := by
  rw [Fin.getElem_fin]
  exact chanVec_get _ c.val c.isLt

theorem boundaryLights_outputs (s : State) (c : Fin 24) :
    (boundaryLights s).outputs[c] = ((boundaryLights s).composed[c] * s.alloc.gL + 512) / 1024 := by
  simp only [Fin.getElem_fin]
  exact vecMap_get _ _ c.val c.isLt

theorem boundaryLights_iLest (s : State) : (boundaryLights s).iLest = ((List.finRange 24).map fun c =>
    (boundaryLights s).composed[c] * s.chassis.profile.nat (.channelCurrent c)).sum / 254 := rfl

/-! ## The selected alert (R152) -/

theorem find?_cons_eq_ite {α : Type} (q : α → Bool) (a : α) (as : List α) :
    (a :: as).find? q = if q a = true then some a else as.find? q := by
  cases h : q a <;> simp [h]

/-- The alerts asked in the order of their rank. -/
theorem selectAlert_eq (p : Profile) (u : LightInputs) : selectAlert p u =
    if u.failsafe = true ∧ p.nat .failsafePattern < 16 then some .failsafe
    else if u.stage = .cutoff ∧ p.nat .cutoffPattern < 16 then some .cutoff
    else if u.stage = .limit ∧ p.nat .limitPattern < 16 then some .limit
    else if u.loadHold = true ∧ p.nat .winchLoadPattern < 16 then some .winchLoad
    else if u.stage = .conserve ∧ p.nat .conservePattern < 16 then some .conserve
    else none := by
  simp only [selectAlert, allAlerts, find?_cons_eq_ite, List.find?_nil, alertActive, Bool.and_eq_true,
    decide_eq_true_eq]
  rfl

theorem lightInputs_failsafe (s : State) : (lightInputs s).failsafe = true ↔
    ∃ l, (s.ports.get l).link = .silent ∧ (s.ports.get l).failsafeFlag = true := by
  simp only [lightInputs, Bool.or_eq_true, Bool.and_eq_true, decide_eq_true_eq]
  constructor
  · rintro ((h | h) | h)
    · exact ⟨.p, h⟩
    · exact ⟨.w, h⟩
    · exact ⟨.s, h⟩
  · rintro ⟨l, h⟩
    cases l with
    | p => exact .inl (.inl h)
    | w => exact .inl (.inr h)
    | s => exact .inr h

theorem alertStep_selected (p : Profile) (u : LightInputs) (x : Lights) :
    (alertStep p u x).1.alert.selected = selectAlert p u := by
  unfold alertStep
  split
  · next h => exact h.symm
  · next a h =>
    dsimp only
    split
    · next hs => rw [h]; exact hs.1
    · exact h.symm

/-! ## The starts and advances of step 2 (R149, R150, R152, R156) -/

theorem start_zero (d : PatternDef) : Playback.start d 0 = ⟨0, d.stepTime⟩ := by
  rw [Playback.start, Nat.zero_min]

theorem autoStep_eq (x : Lights) (active : Bool) (field : Nat) (a : AutoSource) : (autoStep x active field a).1 =
    if active then
      (if a.active = true ∧ a.pattern = field ∧ a.rewritten = false then
          { a with play := (a.play.advance (x.defn field)).1 }
        else ⟨true, field, ⟨0, (x.defn field).stepTime⟩, false⟩)
    else { a with active := false, rewritten := false } := by
  unfold autoStep
  rw [start_zero]
  split
  · split <;> rfl
  · rfl

theorem overlayStep_eq (x : Lights) (o : Overlay) : (overlayStep x o).1 = { o with
    restart := false
    play := (match o.pattern with
      | none => o.play
      | some k => if o.restart = true then ⟨0, (x.defn k).stepTime⟩ else (o.play.advance (x.defn k)).1) } := by
  cases hp : o.pattern with
  | none => simp [overlayStep, hp]
  | some k => cases hr : o.restart <;> simp [overlayStep, hp, hr, start_zero]

theorem alertStep_alert (p : Profile) (u : LightInputs) (x : Lights) :
    (alertStep p u x).1.alert = match (alertStep p u x).1.alert.selected with
      | none => { x.alert with selected := none, rewritten := false }
      | some a =>
        if x.alert.selected = some a ∧ x.alert.pattern = alertField p a ∧ x.alert.rewritten = false then
          { x.alert with play := (x.alert.play.advance (x.defn (alertField p a))).1 }
        else ⟨some a, alertField p a, ⟨0, (x.defn (alertField p a)).stepTime⟩, false⟩ := by
  rw [alertStep_selected]
  unfold alertStep
  cases selectAlert p u with
  | none => rfl
  | some a =>
    dsimp only
    rw [start_zero]
    split <;> rfl

/-! ## The layers a boundary leaves -/

theorem boundaryLights_alert (s : State) :
    (boundaryLights s).alert = (alertStep s.chassis.profile (lightInputs s) s.lights).1.alert := by
  change (boundaryPlay s.chassis.profile (lightInputs s) s.lights).1.alert = _
  rw [boundaryPlay_lights]

theorem boundaryLights_selected (s : State) :
    (boundaryLights s).alert.selected = selectAlert s.chassis.profile (lightInputs s) := by
  rw [boundaryLights_alert, alertStep_selected]

/-- The fields of SIGNAL after a boundary are those of its step 2. -/
theorem boundaryLights_signal (s : State) :
    let x := (signalStep s.chassis.profile (lightInputs s) s.lights).1
    (boundaryLights s).mode = x.mode ∧ (boundaryLights s).indicator = x.indicator ∧
      (boundaryLights s).brake = x.brake ∧ (boundaryLights s).reverse = x.reverse ∧ (boundaryLights s).mirrored = x.mirrored ∧
      (boundaryLights s).overlay = x.overlay := by
  intro x
  simp only [boundaryLights, composeStep, boundaryPlay_lights]
  exact ⟨rfl, rfl, rfl, rfl, rfl, rfl⟩

theorem signalStep_of_auto {x : Lights} (h : x.mode = .auto) (p : Profile) (u : LightInputs) :
    (signalStep p u x).1 = { x with
      indicator :=
        (autoStep x (decide (p.get .indicatorThreshold ≤ mag u.s)) (p.nat .indicatorPattern) x.indicator).1
      brake := (autoStep x u.braking (p.nat .brakePattern) x.brake).1
      reverse := (autoStep x u.reverse (p.nat .reversePattern) x.reverse).1
      mirrored := decide (u.s < 0) } := by
  simp only [signalStep, h]

theorem signalStep_of_manual {x : Lights} (h : x.mode = .manual) (p : Profile) (u : LightInputs) :
    (signalStep p u x).1 = { x with overlay := (overlayStep x x.overlay).1 } := by
  simp only [signalStep, h]

theorem signalStep_mode (p : Profile) (u : LightInputs) (x : Lights) : (signalStep p u x).1.mode = x.mode := by
  cases h : x.mode with
  | auto => rw [signalStep_of_auto h, h]
  | manual => rw [signalStep_of_manual h, h]

/-! ## The statement -/

/-- Settles O52: the boundary's lights, its composed values by the layers, its alert by rank, and its sources by mode. -/
theorem boundaryComposesAndSelects : Obligations.BoundaryComposesAndSelects := by
  have hlights (s : State) : (arbitrate (lightBoundary s).1).lights = boundaryLights s := lightBoundary_lights s
  refine ⟨fun s hp => ⟨_, exec_lightFrameBoundary hp, ?_⟩, fun s hp => ⟨_, exec_lightFrameBoundary hp, ?_⟩,
    fun s hp => ⟨_, exec_lightFrameBoundary hp, ?_⟩⟩
  · rw [hlights]
    refine ⟨fun c => ?_, boundaryLights_iLest s, boundaryLights_outputs s, rfl, boundaryLights_store s,
      boundaryLights_table s, lightBoundary_drive s, lightBoundary_wheels s, lightBoundary_steer s, lightBoundary_winch s,
      lightBoundary_supply s, lightBoundary_alloc s, lightBoundary_chassis s,
      ⟨lightBoundary_pending s, lightBoundary_powered s, lightBoundary_now s⟩,
      (lightBoundary_portsKept s).trans (arbitrate_portsKept _)⟩
    rw [boundaryLights_composed, composedValue_eq, alertValue_eq, signalValue_eq, baseValue_eq]
    generalize boundaryLights s = x
    rfl
  · rw [hlights, boundaryLights_selected, selectAlert_eq]
    intro p shown failsafe
    have hfailsafe : (lightInputs s).failsafe = true ↔ failsafe := lightInputs_failsafe s
    have hload : (lightInputs s).loadHold = true ↔ s.winch.state = .loadHold := decide_eq_true_iff
    refine ⟨fun hf h => if_pos ⟨hfailsafe.mpr hf, h⟩, fun hf => ?_⟩
    rw [if_neg (fun ⟨h, hs⟩ => hf ⟨hfailsafe.mp h, hs⟩)]
    refine ⟨fun hc h => if_pos ⟨hc, h⟩, fun hl h => ?_, fun hc hl => ?_⟩
    · rw [if_neg (fun ⟨hc, _⟩ => nomatch hl.symm.trans hc)]
      exact if_pos ⟨hl, h⟩
    · rw [if_neg (c := (lightInputs s).stage = .cutoff ∧ _) hc, if_neg (c := (lightInputs s).stage = .limit ∧ _) hl]
      refine ⟨fun hw h => if_pos ⟨hload.mpr hw, h⟩, fun hw => ?_⟩
      rw [if_neg (fun ⟨h, hs⟩ => hw ⟨hload.mp h, hs⟩)]
      exact ⟨fun hs h => if_pos ⟨hs, h⟩, fun hs => if_neg hs⟩
  · rw [hlights]
    obtain ⟨hmode, hindicator, hbrake, hreverse, hmirrored, hoverlay⟩ := boundaryLights_signal s
    rw [hmode, signalStep_mode]
    refine ⟨fun h => ?_, fun h => ?_, rfl, rfl, ?_⟩
    · rw [hindicator, hbrake, hreverse, hmirrored, hoverlay, signalStep_of_auto h]
      exact ⟨autoStep_eq .., autoStep_eq .., autoStep_eq .., rfl, rfl⟩
    · rw [hindicator, hbrake, hreverse, hmirrored, hoverlay, signalStep_of_manual h]
      exact ⟨rfl, rfl, rfl, rfl, overlayStep_eq ..⟩
    · rw [boundaryLights_alert]
      exact alertStep_alert ..

end Sys2Proof.Machine.LightEngine
end

section
/-! The assembly of frames from bytes (R160 to R164): what a byte does to its port, that the arbiters do not look at the
assembly, and that the bytes of a frame are the frame. -/

namespace Sys2Proof.Machine.LinksAndFrames

/-! ## A byte on a port (R161) -/

/-- A port in an assembly state with the given bytes in its buffer. -/
def assembling (a : Assembly) (buffer : List Byte) (q : Port) : Port := { q with assembly := a, buffer := buffer }

/-- The assembly state after a byte in BODY: CHECK once the announced body is complete (R161). -/
def bodyPhase (buffer : List Byte) : Assembly :=
  if announced buffer + 1 ≤ buffer.length then .check else .body

@[simp] theorem assembling_assembly (a : Assembly) (buffer : List Byte) (q : Port) :
    (assembling a buffer q).assembly = a := rfl

@[simp] theorem assembling_buffer (a : Assembly) (buffer : List Byte) (q : Port) :
    (assembling a buffer q).buffer = buffer := rfl

@[simp] theorem assembling_assembling (a a' : Assembly) (buffer buffer' : List Byte) (q : Port) :
    assembling a buffer (assembling a' buffer' q) = assembling a buffer q := rfl

theorem assembling_eq_self {a : Assembly} {buffer : List Byte} {q : Port} (ha : q.assembly = a)
    (hb : q.buffer = buffer) : assembling a buffer q = q := by
  subst ha hb
  rfl

theorem bodyPhase_of_short {buffer : List Byte} (h : buffer.length ≤ announced buffer) : bodyPhase buffer = .body :=
  if_neg (by omega)

theorem bodyPhase_of_full {buffer : List Byte} (h : announced buffer + 1 ≤ buffer.length) :
    bodyPhase buffer = .check :=
  if_pos h

/-- The length byte is the first in the buffer, so what follows does not change it (R161). -/
theorem announced_append {buffer : List Byte} (h : buffer ≠ []) (bytes : List Byte) :
    announced (buffer ++ bytes) = announced buffer := by
  obtain ⟨x, xs, rfl⟩ := List.exists_cons_of_ne_nil h
  rfl

theorem assemble_hunt {q : Port} (h : q.assembly = .hunt) (b : Byte) :
    q.assemble b = (if b = 0xC5 then assembling .length [] q else q, none) := by
  simp only [Port.assemble, h, assembling]

theorem assemble_length {q : Port} (h : q.assembly = .length) (b : Byte) :
    q.assemble b = (if 4 ≤ b.toNat ∧ b.toNat ≤ 52 then assembling .body [b] q
      else if b = 0xC5 then q else assembling .hunt [] q, none) := by
  simp only [Port.assemble, h, assembling]
  split
  · rfl
  · split <;> rfl

theorem assemble_body {q : Port} (h : q.assembly = .body) (b : Byte) :
    q.assemble b = (assembling (bodyPhase (q.buffer ++ [b])) (q.buffer ++ [b]) q, none) := by
  simp only [Port.assemble, h, assembling, bodyPhase]
  split <;> simp

theorem assemble_check_partial {q : Port} (h : q.assembly = .check) {b : Byte}
    (hlen : q.buffer.length + 1 < announced (q.buffer ++ [b]) + 3) :
    q.assemble b = (assembling .check (q.buffer ++ [b]) q, none) := by
  have hshort : ¬announced (q.buffer ++ [b]) + 3 ≤ (q.buffer ++ [b]).length := by
    rw [List.length_append, List.length_singleton]
    omega
  simp only [Port.assemble, h, if_neg hshort, assembling]

theorem assemble_check_last {q : Port} (h : q.assembly = .check) {b : Byte}
    (hlen : announced (q.buffer ++ [b]) + 3 ≤ q.buffer.length + 1) :
    q.assemble b = (assembling .hunt [] q, some (q.buffer ++ [b])) := by
  have hfull : announced (q.buffer ++ [b]) + 3 ≤ (q.buffer ++ [b]).length := by
    rwa [List.length_append, List.length_singleton]
  simp only [Port.assemble, h, if_pos hfull, assembling]

/-! ## A byte received (R160, R161, R163) -/

theorem receiveByte_of_none {l : Link} {b : Byte} {s : State} {r : Port}
    (h : (s.ports.get l).assemble b = (r, none)) : receiveByte l b s = setPort l r s := by
  simp [receiveByte, h]

theorem receiveByte_of_some {l : Link} {b : Byte} {s : State} {r : Port} {buffer : List Byte}
    (h : (s.ports.get l).assemble b = (r, some buffer)) :
    receiveByte l b s = completeFrame l buffer (setPort l r s) := by
  simp [receiveByte, h]

theorem exec_byteReceived {s : State} (hp : s.powered = true) (l : Link) (b : Byte) :
    exec (.byteReceived l b false) s = .next (arbitrate (receiveByte l b s)) :=
  event_powered hp

theorem exec_frameReceived {s : State} (hp : s.powered = true) (l : Link) (b : Byte) :
    exec (.frameReceived l b) s = .next (arbitrate (receiveByte l b s)) :=
  event_powered hp

theorem completeFrame_bad {buffer : List Byte} (h : frameGood buffer = false) (l : Link) (s : State) :
    completeFrame l buffer s = s := by
  simp [completeFrame, h]

theorem completeFrame_command {buffer : List Byte} (h : frameGood buffer = true)
    (hkind : byteAt (frameBody buffer) 0 = 1) (l : Link) (s : State) :
    completeFrame l buffer s = arrive l (commandOf (frameBody buffer)) s := by
  simp [completeFrame, h, hkind]

theorem completeFrame_other {buffer : List Byte} (h : frameGood buffer = true)
    (hkind : byteAt (frameBody buffer) 0 ≠ 1) (l : Link) (s : State) :
    completeFrame l buffer s = goodFrame l s := by
  rw [completeFrame, if_pos h, if_neg hkind]

/-- The body of a received frame stands in the buffer behind the length byte (R161, R164). -/
theorem byteAt_frameBody {buffer : List Byte} {i : Nat} (h : i + 3 < buffer.length) :
    byteAt (frameBody buffer) i = byteAt buffer (i + 1) := by
  simp only [byteAt, frameBody, List.getD_eq_getElem?_getD, List.getElem?_drop, List.getElem?_take, Nat.add_comm 1 i]
  rw [if_pos (by omega)]

/-- Settles O13: the assembly state by state, and the byte that completes a frame by its check and kind. -/
theorem assemblyFollowsItsTable : Obligations.AssemblyFollowsItsTable := by
  refine ⟨fun l b s hp => ⟨⟨fun h => ?_, fun h => ?_, fun h => ?_, fun h hlen => ?_⟩,
    event_powered hp, event_powered hp⟩, ?_⟩
  · rw [exec_byteReceived hp, receiveByte_of_none (assemble_hunt h b), apply_ite (setPort l · s)]
    rfl
  · rw [exec_byteReceived hp, receiveByte_of_none (assemble_length h b), apply_ite (setPort l · s),
      apply_ite (setPort l · s)]
    rfl
  · rw [exec_byteReceived hp, receiveByte_of_none (assemble_body h b)]
    simp only [assembling, bodyPhase, announced, List.length_append, List.length_singleton]
  · rw [exec_byteReceived hp, receiveByte_of_none (assemble_check_partial h hlen)]
    simp only [assembling, h]
  · intro l last s buffer hunting hp hfits hcheck hlen
    have hbyte : receiveByte l last s = completeFrame l buffer hunting :=
      receiveByte_of_some (assemble_check_last hcheck (by
        rw [List.length_append, List.length_singleton] at hlen
        exact hlen.ge))
    have hlong : 7 ≤ buffer.length := by
      simp only [assemblyFits, hcheck, Bool.and_eq_true, decide_eq_true_eq] at hfits
      obtain ⟨⟨⟨hmin, -⟩, hbody⟩, -⟩ := hfits
      have hne : (s.ports.get l).buffer ≠ [] := List.ne_nil_of_length_pos (by omega)
      have hannounced : (byteAt buffer 0).toNat = announced (s.ports.get l).buffer := announced_append hne [last]
      omega
    refine ⟨rfl, fun hbad => ?_, fun hgood hkind => ?_, fun hgood hkind => ?_⟩
    · rw [exec_frameReceived hp, hbyte, completeFrame_bad hbad]
    · rw [exec_frameReceived hp, hbyte, completeFrame_command hgood (by rwa [byteAt_frameBody (by omega)]), commandOf,
        byteAt_frameBody (by omega), byteAt_frameBody (by omega), byteAt_frameBody (by omega)]
    · rw [exec_frameReceived hp, hbyte, completeFrame_other hgood (by rwa [byteAt_frameBody (by omega)])]
      simp only [goodFrame, hunting, setPort_get_same, setPort_chassis]
      simp only [setPort, PerLink.set_set]

/-! ## The arbiters do not look at the assembly (R168) -/

theorem assembling_queueOffered (a : Assembly) (buffer : List Byte) (pass : Nat → Nat) (q : Port) :
    (assembling a buffer q).queueOffered pass = assembling a buffer (q.queueOffered pass) := by
  rw [Port.queueOffered_eq, Port.queueOffered_eq]
  rfl

theorem assembling_startNext (a : Assembly) (buffer : List Byte) (stage : Stage) (q : Port) :
    (assembling a buffer q).startNext stage = assembling a buffer (q.startNext stage) := by
  obtain ⟨_, _, _, status, notices, _, _, _, _, tx, _, _, _⟩ := q
  cases tx with
  | some f => rfl
  | none =>
    cases status with
    | some st => rfl
    | none => cases notices <;> rfl

theorem assembling_startNotice (a : Assembly) (buffer : List Byte) (q : Port) :
    (assembling a buffer q).startNotice = assembling a buffer q.startNotice := by
  obtain ⟨_, _, _, _, notices, _, _, _, _, _, _, _, _⟩ := q
  cases notices <;> rfl

theorem assembling_arbitrate (a : Assembly) (buffer : List Byte) (noticeFirst : Bool) (stage : Stage) (q : Port) :
    (assembling a buffer q).arbitrate noticeFirst stage = assembling a buffer (q.arbitrate noticeFirst stage) := by
  unfold Port.arbitrate
  rw [assembling_startNext, assembling_startNotice, ← apply_ite (assembling a buffer)]
  rfl

theorem assembling_endEvent (a : Assembly) (buffer : List Byte) (pass : Nat → Nat) (noticeFirst : Bool) (stage : Stage)
    (q : Port) :
    (assembling a buffer q).endEvent pass noticeFirst stage = assembling a buffer (q.endEvent pass noticeFirst stage) := by
  unfold Port.endEvent
  rw [assembling_queueOffered, assembling_arbitrate]

theorem assembling_drawn (a : Assembly) (buffer : List Byte) (pass : Nat → Nat) (q : Port) :
    (assembling a buffer q).drawn pass = q.drawn pass := by
  unfold Port.drawn
  rw [assembling_queueOffered]
  rfl

/-- The part with one port in an assembly state with the given bytes in its buffer. -/
def atAssembly (l : Link) (a : Assembly) (buffer : List Byte) (s : State) : State :=
  setPort l (assembling a buffer (s.ports.get l)) s

@[simp] theorem atAssembly_powered (l : Link) (a : Assembly) (buffer : List Byte) (s : State) :
    (atAssembly l a buffer s).powered = s.powered := rfl

@[simp] theorem atAssembly_get_same (l : Link) (a : Assembly) (buffer : List Byte) (s : State) :
    (atAssembly l a buffer s).ports.get l = assembling a buffer (s.ports.get l) :=
  setPort_get_same ..

theorem setPort_atAssembly (l : Link) (q : Port) (a : Assembly) (buffer : List Byte) (s : State) :
    setPort l q (atAssembly l a buffer s) = setPort l q s := by
  simp [atAssembly, setPort]

theorem atAssembly_eq_self {l : Link} {a : Assembly} {buffer : List Byte} {s : State}
    (ha : (s.ports.get l).assembly = a) (hb : (s.ports.get l).buffer = buffer) : atAssembly l a buffer s = s := by
  simp [atAssembly, assembling_eq_self ha hb, setPort]

theorem anyDrawn_atAssembly (l : Link) (a : Assembly) (buffer : List Byte) (s : State) :
    anyDrawn (atAssembly l a buffer s) = anyDrawn s := by
  cases l <;> simp [anyDrawn, atAssembly, setPort, PerLink.set, PerLink.get, assembling_drawn]

/-- The end of an event acts on the lines and not on the assembly, so the two changes are made in either order. -/
theorem arbitrate_atAssembly (l : Link) (a : Assembly) (buffer : List Byte) (s : State) :
    arbitrate (atAssembly l a buffer s) = atAssembly l a buffer (arbitrate s) := by
  have hports : (arbitrate (atAssembly l a buffer s)).ports = (atAssembly l a buffer (arbitrate s)).ports := by
    refine PerLink.ext_get fun m => ?_
    rw [arbitrate_get]
    by_cases h : m = l
    · subst h
      rw [atAssembly_get_same, atAssembly_get_same, assembling_endEvent, arbitrate_get]
      rfl
    · rw [atAssembly, atAssembly, setPort_get_other _ _ h, setPort_get_other _ _ h, arbitrate_get]
      rfl
  have hdraws : (arbitrate (atAssembly l a buffer s)).draws = (atAssembly l a buffer (arbitrate s)).draws := by
    simp only [arbitrate, anyDrawn_atAssembly]
    rfl
  calc arbitrate (atAssembly l a buffer s)
      = { s with ports := (arbitrate (atAssembly l a buffer s)).ports
                 draws := (arbitrate (atAssembly l a buffer s)).draws } := rfl
    _ = { s with ports := (atAssembly l a buffer (arbitrate s)).ports
                 draws := (atAssembly l a buffer (arbitrate s)).draws } := by rw [hports, hdraws]
    _ = atAssembly l a buffer (arbitrate s) := rfl

/-! ## A run of bytes on a part with nothing to start (R161) -/

section

variable {l : Link} {s : State} (hp : s.powered = true) (hidle : arbitrate s = s)
include hp hidle

/-- A byte that completes no frame moves the port's assembly, and the next byte finds the part so. -/
theorem receiveAll_of_assemble {a a' : Assembly} {buffer buffer' : List Byte} {b : Byte}
    (h : (assembling a buffer (s.ports.get l)).assemble b = (assembling a' buffer' (s.ports.get l), none))
    (rest : List Byte) :
    receiveAll l (b :: rest) (atAssembly l a buffer s) = receiveAll l rest (atAssembly l a' buffer' s) := by
  have hbyte : receiveByte l b (atAssembly l a buffer s) = atAssembly l a' buffer' s :=
    (receiveByte_of_none (by rwa [atAssembly_get_same])).trans (setPort_atAssembly ..)
  simp only [receiveAll, exec_byteReceived (s := atAssembly l a buffer s) hp, hbyte, arbitrate_atAssembly, hidle]

/-- The bytes of the body, and no byte of the check, bring the port from BODY to CHECK (R161). -/
theorem receiveAll_body {buffer bytes : List Byte} (rest : List Byte) (hne : buffer ≠ [])
    (hlen : buffer.length + bytes.length ≤ announced buffer + 1) :
    receiveAll l (bytes ++ rest) (atAssembly l (bodyPhase buffer) buffer s) =
      receiveAll l rest (atAssembly l (bodyPhase (buffer ++ bytes)) (buffer ++ bytes) s) := by
  induction bytes generalizing buffer with
  | nil => simp
  | cons b bytes ih =>
    rw [List.length_cons] at hlen
    rw [bodyPhase_of_short (by omega), List.cons_append,
      receiveAll_of_assemble hp hidle (assemble_body (q := assembling .body buffer (s.ports.get l)) rfl b),
      assembling_buffer, ih (by simp) (by rw [announced_append hne, List.length_append, List.length_singleton]; omega), List.append_assoc,
      List.singleton_append]

/-- The bytes of a frame of any body of 4 to 52 bytes, received one after the other on a port in HUNT, are the frame's
completion (R161 to R163). -/
theorem receiveAll_frame {body check : List Byte} (hmin : 4 ≤ body.length) (hmax : body.length ≤ 52)
    (hcheck : check.length = 2) (hhunt : (s.ports.get l).assembly = .hunt) (hbuffer : (s.ports.get l).buffer = []) :
    receiveAll l (0xC5 :: byteOf body.length :: (body ++ check)) s =
      .next (arbitrate (completeFrame l (byteOf body.length :: (body ++ check)) s)) := by
  obtain ⟨high, low, rfl⟩ := List.length_eq_two.mp hcheck
  have hbyte : (byteOf body.length).toNat = body.length := by
    rw [byteOf, BitVec.toNat_ofNat]
    omega
  have hannounced (xs : List Byte) : announced (byteOf body.length :: xs) = body.length := hbyte
  have hself : atAssembly l .hunt [] s = s := atAssembly_eq_self hhunt hbuffer
  have hlength : (assembling .length [] (s.ports.get l)).assemble (byteOf body.length) =
      (assembling (bodyPhase [byteOf body.length]) [byteOf body.length] (s.ports.get l), none) := by
    rw [assemble_length (by rfl), if_pos (by omega), bodyPhase_of_short (by rw [hannounced]; simp; omega)]
    rfl
  have hlast : receiveByte l low (atAssembly l .check (byteOf body.length :: (body ++ [high])) s) =
      completeFrame l (byteOf body.length :: (body ++ [high, low])) s := by
    rw [receiveByte_of_some (assemble_check_last (by simp) (by simp [hannounced])), setPort_atAssembly,
      atAssembly_get_same, assembling_assembling, ← atAssembly, hself, assembling_buffer, List.cons_append,
      List.append_assoc, List.singleton_append]
  calc receiveAll l (0xC5 :: byteOf body.length :: (body ++ [high, low])) s
      = receiveAll l (0xC5 :: byteOf body.length :: (body ++ [high, low])) (atAssembly l .hunt [] s) := by rw [hself]
    _ = receiveAll l (byteOf body.length :: (body ++ [high, low])) (atAssembly l .length [] s) :=
        receiveAll_of_assemble hp hidle (assemble_hunt (by rfl) _) _
    _ = receiveAll l (body ++ [high, low]) (atAssembly l (bodyPhase [byteOf body.length]) [byteOf body.length] s) :=
        receiveAll_of_assemble hp hidle hlength _
    _ = receiveAll l [high, low] (atAssembly l .check (byteOf body.length :: body) s) := by
        rw [receiveAll_body hp hidle _ (by simp) (by rw [hannounced]; simp; omega), List.singleton_append,
          bodyPhase_of_full (by rw [hannounced, List.length_cons])]
    _ = receiveAll l [low] (atAssembly l .check (byteOf body.length :: (body ++ [high])) s) :=
        receiveAll_of_assemble hp hidle (assemble_check_partial
          (q := assembling .check (byteOf body.length :: body) (s.ports.get l)) rfl (by simp [hannounced])) _
    _ = .next (arbitrate (completeFrame l (byteOf body.length :: (body ++ [high, low])) s)) := by
        simp only [receiveAll, exec_byteReceived (s := atAssembly l _ _ s) hp, hlast]

end

/-! ## The check of a received frame (R162, R163) -/

theorem frameGood_append {n : Byte} {body check : List Byte} (h : check.length = 2) :
    frameGood (n :: (body ++ check)) = true ↔ checkBytes (n :: body) = check := by
  have hlen : (n :: body ++ check).length - 2 = (n :: body).length := by
    rw [List.length_append, h, Nat.add_sub_cancel]
  rw [← List.cons_append, frameGood, hlen, List.take_left, List.drop_left, beq_iff_eq]

theorem frameBody_append {n : Byte} {body check : List Byte} (h : check.length = 2) :
    frameBody (n :: (body ++ check)) = body := by
  have hlen : (n :: body ++ check).length - 2 = (n :: body).length := by
    rw [List.length_append, h, Nat.add_sub_cancel]
  rw [← List.cons_append, frameBody, hlen, List.take_left]
  rfl

/-- Settles O11: the frame completes, its check is good, and its body is the command's. -/
theorem commandFrameBytesAreTheCommand : Obligations.CommandFrameBytesAreTheCommand := by
  intro l c s hlen hp hhunt hbuffer hidle
  generalize hbody : [1, c.tag, c.unit, c.code] ++ c.params = body
  have hbodylen : body.length = c.params.length + 4 := by
    rw [← hbody, List.length_append, Nat.add_comm]
    rfl
  have hcheck : (checkBytes (byteOf body.length :: body)).length = 2 := rfl
  have hgood : frameGood (byteOf body.length :: (body ++ checkBytes (byteOf body.length :: body))) = true :=
    (frameGood_append hcheck).mpr rfl
  refine (receiveAll_frame hp hidle (by omega) (by omega) hcheck hhunt hbuffer).trans ?_
  rw [completeFrame_command hgood (by rw [frameBody_append hcheck, ← hbody]; rfl), frameBody_append hcheck, ← hbody]
  rfl

/-- Settles O12: the frame completes, its check is bad, and the port is back in HUNT as it was. -/
theorem badCheckLeavesNoTrace : Obligations.BadCheckLeavesNoTrace := by
  intro l body check s hmin hmax hcheck hbad hp hhunt hbuffer hidle
  have hrefused : frameGood (byteOf body.length :: (body ++ check)) = false :=
    Bool.eq_false_iff.mpr fun h => hbad ((frameGood_append hcheck).mp h).symm
  rw [receiveAll_frame hp hidle hmin hmax hcheck hhunt hbuffer, completeFrame_bad hrefused, hidle]

end Sys2Proof.Machine.LinksAndFrames
end

section
/-! The order of one event's notices at a port: those of one source keep their order, and every such order comes of some
free value (R62, R66, R101, R104, R169). -/

namespace Sys2Proof.Machine.LinksAndFrames

/-- The notices of one source, in their order (R66, R169). -/
def fromSource (x : UnitId × Option Wheel) (ns : List Notice) : List Notice := ns.filter fun n => n.source = x

@[simp] theorem fromSource_append (x : UnitId × Option Wheel) (as bs : List Notice) :
    fromSource x (as ++ bs) = fromSource x as ++ fromSource x bs :=
  List.filter_append ..

theorem fromSource_reverse (x : UnitId × Option Wheel) (ns : List Notice) :
    fromSource x ns.reverse = (fromSource x ns).reverse :=
  List.filter_reverse

theorem fromSource_cons_self (n : Notice) (ns : List Notice) :
    fromSource n.source (n :: ns) = n :: fromSource n.source ns :=
  List.filter_cons_of_pos (decide_eq_true rfl)

theorem fromSource_cons_other {x : UnitId × Option Wheel} {n : Notice} (h : n.source ≠ x) (ns : List Notice) :
    fromSource x (n :: ns) = fromSource x ns :=
  List.filter_cons_of_neg (by simpa using h)

/-- Notices of different sources may change places. -/
theorem fromSource_swap {m n : Notice} (h : m.source ≠ n.source) (x : UnitId × Option Wheel) (ns : List Notice) :
    fromSource x (m :: n :: ns) = fromSource x (n :: m :: ns) := by
  simp only [fromSource, List.filter_cons, decide_eq_true_eq]
  split_ifs with hm hn
  · exact absurd (hm.trans hn.symm) h
  all_goals rfl

/-! ## What a port takes (R66, R169) -/

/-- A notice slips in behind those of its own source. -/
theorem fromSource_slip (x : UnitId × Option Wheel) (n : Notice) (k : Nat) (latest : List Notice) :
    fromSource x (slip n k latest) = fromSource x (n :: latest) := by
  induction latest generalizing k with
  | nil => rfl
  | cons m latest ih =>
    unfold slip
    split
    · rfl
    · next h =>
      have hsource : m.source ≠ n.source := fun e => h (.inl e)
      calc fromSource x (m :: slip n (k - 1) latest)
          = fromSource x [m] ++ fromSource x (slip n (k - 1) latest) := fromSource_append x [m] _
        _ = fromSource x [m] ++ fromSource x (n :: latest) := by rw [ih]
        _ = fromSource x (m :: n :: latest) := (fromSource_append x [m] _).symm
        _ = fromSource x (n :: m :: latest) := fromSource_swap hsource x latest

theorem fromSource_arrangeFrom (x : UnitId × Option Wheel) (pass : Nat → Nat) (i : Nat) (latest ns : List Notice) :
    fromSource x (arrangeFrom pass i latest ns) = fromSource x (latest.reverse ++ ns) := by
  induction ns generalizing i latest with
  | nil => rw [arrangeFrom, List.append_nil]
  | cons n ns ih =>
    rw [arrangeFrom, ih, fromSource_append, fromSource_reverse, fromSource_slip, ← fromSource_reverse,
      List.reverse_cons, ← fromSource_append, List.append_assoc, List.singleton_append]

/-- A port takes the notices of one source as offered, whatever the free value (R66, R169). -/
theorem fromSource_arrange (x : UnitId × Option Wheel) (pass : Nat → Nat) (ns : List Notice) :
    fromSource x (arrange pass ns) = fromSource x ns :=
  fromSource_arrangeFrom x pass 0 [] ns

/-! ## Every such order is taken for some free value (R169) -/

/-- A notice may go before any run of notices of other sources. -/
theorem slip_past {n : Notice} {after : List Notice} (h : ∀ m ∈ after, m.source ≠ n.source) (before : List Notice) :
    slip n after.length (after ++ before) = after ++ n :: before := by
  induction after with
  | nil => cases before <;> simp [slip]
  | cons m after ih =>
    obtain ⟨hm, hrest⟩ := List.forall_mem_cons.mp h
    rw [List.cons_append, slip, if_neg (by simp [hm]), List.length_cons, Nat.add_sub_cancel, ih hrest,
      List.cons_append]

theorem arrangeFrom_concat (pass : Nat → Nat) (i : Nat) (latest ns : List Notice) (n : Notice) :
    arrangeFrom pass i latest (ns ++ [n]) =
      (slip n (pass (i + ns.length)) (arrangeFrom pass i latest ns).reverse).reverse := by
  induction ns generalizing i latest with
  | nil => simp [arrangeFrom]
  | cons m ns ih =>
    rw [List.cons_append, arrangeFrom, ih, arrangeFrom, List.length_cons, Nat.add_assoc, Nat.add_comm 1]

/-- The order of some notices is a matter of the free value at their places alone. -/
theorem arrangeFrom_congr {pass pass' : Nat → Nat} {i : Nat} {ns : List Notice}
    (h : ∀ j < i + ns.length, pass j = pass' j) (latest : List Notice) :
    arrangeFrom pass i latest ns = arrangeFrom pass' i latest ns := by
  induction ns generalizing i latest with
  | nil => rfl
  | cons n ns ih =>
    rw [List.length_cons] at h
    rw [arrangeFrom, arrangeFrom, h i (by omega), ih fun j hj => h j (by omega)]

/-- The last notice of a source stands behind all others of its source. -/
theorem split_at_last {n : Notice} {ns as : List Notice} (h : fromSource n.source ns = as ++ [n]) :
    ∃ before after, ns = before ++ n :: after ∧ fromSource n.source before = as ∧
      ∀ m ∈ after, m.source ≠ n.source := by
  obtain ⟨front, back, rfl, hfront, hback⟩ := List.filter_eq_append_iff.mp h
  obtain ⟨skipped, after, rfl, hskipped, -, hafter⟩ := List.filter_eq_cons_iff.mp hback
  refine ⟨front ++ skipped, after, by rw [List.append_assoc], ?_, by simpa using hafter⟩
  have hnone : fromSource n.source skipped = [] := by simpa [fromSource] using hskipped
  rw [fromSource_append, hnone, List.append_nil]
  exact hfront

/-- Every order that keeps the notices of each source as offered is the port's for some free value: the notice offered
last passes those that stand behind it (R169). -/
theorem exists_arrange {offered ns : List Notice} (h : ∀ x, fromSource x ns = fromSource x offered) :
    ∃ pass, arrange pass offered = ns := by
  induction offered using List.reverseRecOn generalizing ns with
  | nil =>
    refine ⟨fun _ => 0, (List.eq_nil_iff_forall_not_mem.mpr fun n hn => ?_).symm⟩
    have hmem : n ∈ fromSource n.source ns := List.mem_filter.mpr ⟨hn, decide_eq_true rfl⟩
    rw [h] at hmem
    cases hmem
  | append_singleton offered n ih =>
    have hlast : fromSource n.source ns = fromSource n.source offered ++ [n] := by
      rw [h, fromSource_append, fromSource_cons_self]
      rfl
    obtain ⟨before, after, rfl, hbefore, hafter⟩ := split_at_last hlast
    have hrest (x : UnitId × Option Wheel) : fromSource x (before ++ after) = fromSource x offered := by
      by_cases hx : n.source = x
      · subst hx
        have hnone : fromSource n.source after = [] := by simpa [fromSource] using hafter
        rw [fromSource_append, hnone, List.append_nil, hbefore]
      · have hall := h x
        rwa [fromSource_append, fromSource_cons_other hx, fromSource_append x offered, fromSource_cons_other hx,
          ← fromSource_append, show fromSource x [] = [] from rfl, List.append_nil] at hall
    obtain ⟨pass, hpass⟩ := ih hrest
    refine ⟨Function.update pass offered.length after.length, ?_⟩
    have hearlier : arrangeFrom (Function.update pass offered.length after.length) 0 [] offered = before ++ after :=
      (arrangeFrom_congr (fun j hj => Function.update_of_ne (by omega) ..) []).trans hpass
    have hpast := slip_past (after := after.reverse) (by simpa using hafter) before.reverse
    rw [List.length_reverse] at hpast
    rw [arrange, arrangeFrom_concat, hearlier, Nat.zero_add, Function.update_self, List.reverse_append, hpast]
    simp

/-! ## The statement -/

/-- A DONE goes to its operation's owner alone (R18, R169). -/
theorem handDone_get (u : UnitId) (op : LongOp) (r : OpResult) (s : State) (l : Link) :
    (handDone u op r s).ports.get l =
      if op.owner = some l then (s.ports.get l).hand (.done u op.tag r) else s.ports.get l := by
  unfold handDone
  cases op.owner with
  | none => rfl
  | some m =>
    by_cases h : l = m
    · subst h
      rw [setPort_get_same, if_pos rfl]
    · rw [setPort_get_other _ _ h, if_neg fun e => h (Option.some.inj e).symm]

theorem handDone_of_ports (u : UnitId) (op : LongOp) (r : OpResult) (s : State) :
    handDone u op r s = { s with ports := (handDone u op r s).ports } := by
  unfold handDone
  split <;> rfl

/-- Settles O15: the offer by the masks, the DONE by the owner, and the queue in the port's order, which keeps each
source's own and is otherwise any. -/
theorem noticesAreKeptOrDropped : Obligations.NoticesAreKeptOrDropped := by
  refine ⟨fun n s _ => ⟨fun l => offer_get n s l, rfl⟩, fun u op r s hop => ⟨endOp_disp u r s, fun l => ?_, ?_⟩, ?_⟩
  · rw [endOp_of_some hop]
    exact handDone_get u op r s l
  · rw [endOp_of_some hop, handDone_of_ports]
  · intro source taken queued
    have hsource : source = Notice.source := by
      funext n
      cases n <;> rfl
    have htaken (q : Port) (ns : List Notice) :
        taken q ns ↔ ∀ x, fromSource x ns = fromSource x q.offered := by
      simp only [taken, hsource, fromSource]
    have hqueued (q : Port) (pass : Nat → Nat) : q.queueOffered pass = queued q (arrange pass q.offered) :=
      Port.foldl_append ..
    refine ⟨fun q pass => ⟨arrange pass q.offered, (htaken q _).mpr fun x => fromSource_arrange x pass q.offered,
      hqueued q pass⟩, fun q ns h => ?_⟩
    obtain ⟨pass, rfl⟩ := exists_arrange ((htaken q ns).mp h)
    exact ⟨pass, hqueued q pass⟩

end Sys2Proof.Machine.LinksAndFrames
end

section
/-! The idle step and the frame that finds its slot occupied (R23, R43, R163, R164, R172, R180). -/

namespace Sys2Proof.Machine.LinksAndFrames

theorem step_idle {s : State} (h : s.pending = []) : step s = .next (tick s) := by
  rw [step, h]

/-- Settles O2: an idle step is one ms of the clock, which stands still without power. -/
theorem idleStepPassesOneMillisecond : Obligations.IdleStepPassesOneMillisecond := by
  intro s hidle
  rw [step_idle hidle]
  refine ⟨fun hp => ?_, fun hp => ?_⟩
  · simp [tick, hp]
  · rw [tick, if_pos hp]
    rfl

/-- Settles O10: the frame reloads its link's timer as a good frame, and its command is lost. -/
theorem fullSlotLosesTheFrame : Obligations.FullSlotLosesTheFrame := by
  intro i l c s hi hp hfull
  rw [exec_of_frame hi, event_powered hp, arrive_full hfull]
  simp [goodFrame, setPort]

end Sys2Proof.Machine.LinksAndFrames
end

section
/-! The profile within its ranges and order rules: a written field, the defaults, a reading of the image, and what every
step keeps of the profile, the snapshot and the image (R175, R178, R181 to R184). -/

namespace Sys2Proof.Machine.ProfileStore

open MotionGeometry

/-! ## A written field (R175, R178) -/

/-- An order rule survives a write that keeps the rules of the written field: a field that the rule does not read changes
nothing in it. -/
theorem orderRule_set {rule : Profile → Bool} {fields : List Field}
    (reads : ∀ p q : Profile, (∀ g ∈ fields, p.get g = q.get g) → rule p = rule q)
    (concerns : ∀ g ∈ fields, ∀ p, orderRulesFor g p = rule p) {p : Profile} {f : Field} {v : Int}
    (hp : rule p = true) (ho : orderRulesFor f (p.set f v) = true) : rule (p.set f v) = true := by
  by_cases hf : f ∈ fields
  · rw [← concerns f hf, ho]
  · rw [reads (p.set f v) p fun g hg => p.get_set_other v fun e => hf (e ▸ hg), hp]

theorem thresholdsOrdered_set {p : Profile} {f : Field} {v : Int} (hp : thresholdsOrdered p = true)
    (ho : orderRulesFor f (p.set f v) = true) : thresholdsOrdered (p.set f v) = true :=
  orderRule_set (fields := [.thresholdConserve, .thresholdLimit, .thresholdCutoff])
    (fun p q h => by simp [thresholdsOrdered, h]) (by simp [orderRulesFor]) hp ho

theorem lightsOrdered_set {p : Profile} {f : Field} {v : Int} (hp : lightsOrdered p = true)
    (ho : orderRulesFor f (p.set f v) = true) : lightsOrdered (p.set f v) = true :=
  orderRule_set (fields := [.lightsFloor, .lightsLimit])
    (fun p q h => by simp [lightsOrdered, h]) (by simp [orderRulesFor]) hp ho

theorem currentsOrdered_set {p : Profile} {f : Field} {v : Int} (hp : currentsOrdered p = true)
    (ho : orderRulesFor f (p.set f v) = true) : currentsOrdered (p.set f v) = true :=
  orderRule_set (fields := [.referenceCurrent, .loadCurrent])
    (fun p q h => by simp [currentsOrdered, h]) (by simp [orderRulesFor]) hp ho

theorem frontOrdered_set {p : Profile} {f : Field} {v : Int} (hp : frontOrdered p = true)
    (ho : orderRulesFor f (p.set f v) = true) : frontOrdered (p.set f v) = true :=
  orderRule_set (fields := [.frontMin, .frontMax])
    (fun p q h => by simp [frontOrdered, h]) (by simp [orderRulesFor]) hp ho

theorem rearOrdered_set {p : Profile} {f : Field} {v : Int} (hp : rearOrdered p = true)
    (ho : orderRulesFor f (p.set f v) = true) : rearOrdered (p.set f v) = true :=
  orderRule_set (fields := [.rearMin, .rearMax])
    (fun p q h => by simp [rearOrdered, h]) (by simp [orderRulesFor]) hp ho

/-- A write within range that keeps the order rules of its field keeps the whole profile in order (R177, R178). -/
theorem profileFits_set {p : Profile} {f : Field} {v : Int} (hp : profileFits p = true) (hv : fieldFits f v = true)
    (ho : orderRulesFor f (p.set f v) = true) : profileFits (p.set f v) = true := by
  obtain ⟨hfields, hthresholds, hlights, hcurrents, hfront, hrear⟩ := (profileFits_iff p).mp hp
  exact (profileFits_iff _).mpr ⟨profile_fields_fit_set hv hfields, thresholdsOrdered_set hthresholds ho,
    lightsOrdered_set hlights ho, currentsOrdered_set hcurrents ho, frontOrdered_set hfront ho,
    rearOrdered_set hrear ho⟩

/-- A clamped trim lies in the range of its field, which no order rule concerns (R76, R175, R178). -/
theorem profileFits_setTrim {p : Profile} (hp : profileFits p = true) (axle : Byte) (x : Int) :
    profileFits (p.set (trimField axle) (clampInt (-150) 150 x)) = true := by
  unfold trimField
  split
  · exact profileFits_set hp (clampField_fits .frontTrim x) rfl
  · exact profileFits_set hp (clampField_fits .rearTrim x) rfl

/-! ## The defaults and the reading of the image (R175, R183, R184) -/

theorem get_defaults (f : Field) : Profile.defaults.get f = f.row.default := by
  have h : allFields[f.index.val] = f := by
    obtain ⟨_, h⟩ := List.getElem?_eq_some_iff.mp (allFields_index f)
    exact h
  simp [Profile.get, Profile.defaults, h]

theorem default_fits (f : Field) : fieldFits f f.row.default = true := by
  cases f with
  | silenceTimeout l => cases l <;> rfl
  | _ => rfl

theorem defaults_fit : profileFits Profile.defaults = true := by
  refine (profileFits_iff _).mpr ⟨fun f => get_defaults f ▸ default_fits f, ?_, ?_, ?_, ?_, ?_⟩
  · simp [thresholdsOrdered, get_defaults, Field.row]
  · simp [lightsOrdered, get_defaults, Field.row]
  · simp [currentsOrdered, get_defaults, Field.row]
  · simp [frontOrdered, get_defaults, Field.row]
  · simp [rearOrdered, get_defaults, Field.row]

/-- A reading gives the profile of a good image or the defaults, in order either way. -/
theorem readImage_profile_fits {i : Image} (h : i.good = true → profileFits i.contents.profile = true) :
    profileFits (readImage i).profile = true := by
  unfold readImage
  split
  · next hg => exact h hg
  · exact defaults_fit

/-- The check word of a broken image is replaced by its complement where it would match (R182; log entry 6). -/
theorem staleWord_ne (w x : BitVec 16) : (if w = x then ~~~w else w) ≠ x := by
  split
  · next h =>
    intro e
    have hmsb := congrArg BitVec.msb (e.trans h.symm)
    simp at hmsb
  · next h => exact h

/-- An image broken by the loss of power fails its check, whatever the free values are (R182; log entry 6). -/
theorem brokenImage_bad (draw : Nat) (old : Image) (new : ImageContents) : (brokenImage draw old new).good = false := by
  obtain ⟨c, w, h⟩ : ∃ c w, brokenImage draw old new = ⟨c, if w = imageCheck c then ~~~w else w⟩ := ⟨_, _, rfl⟩
  rw [h, Image.good, beq_eq_false_iff_ne]
  exact staleWord_ne w (imageCheck c)

/-! ## What leaves the profile, the snapshot and the image alone -/

/-- The profile, the snapshot and the image have not moved. -/
structure StoreKept (x y : Chassis) : Prop where
  profile : y.profile = x.profile
  snapshot : y.snapshot = x.snapshot
  image : y.image = x.image

theorem StoreKept.refl (x : Chassis) : StoreKept x x := ⟨rfl, rfl, rfl⟩

theorem StoreKept.of_eq {x y : Chassis} (h : y = x) : StoreKept x y := h ▸ refl x

theorem storeFits_of_kept {s t : State} (h : storeFits s) (k : StoreKept s.chassis t.chassis) : storeFits t := by
  unfold storeFits
  rwa [k.profile, k.snapshot, k.image]

/-- The commands that may move the profile, the snapshot or the image. -/
def storeCommands : List CmdName := [.chassisReset, .profileWrite, .profileCommit, .profileRestore, .steerTrim]

/-- Every other command leaves them so. -/
theorem runBody_storeKept {n : CmdName} (hn : n ∉ storeCommands) (l : Link) (c : Command) (s : State) :
    Leaves (fun t => StoreKept s.chassis t.chassis) (runBody n l c s) := by
  cases n with
  | chassisReset | profileWrite | profileCommit | profileRestore | steerTrim => exact absurd (by decide) hn
  | identify | reportDrive | reportSteer | reportWinch | reportSupply | reportSense | setNotices | steerSet | steerMode
  | winchFree | lightAuto => exact .refl _
  | profileRead =>
    simp only [runBody, profileReadBody]
    split
    · trivial
    · exact .refl _
  | linkReset => exact .of_eq (linkResetAll_chassis l s)
  | reserve =>
    simp only [runBody, reserveBody]
    split
    · trivial
    · split
      · trivial
      · split
        · exact .refl _
        · split
          · exact .refl _
          · split
            · exact .refl _
            · trivial
  | release =>
    simp only [runBody, releaseBody]
    split
    · trivial
    · refine .of_eq ?_
      split
      · rw [endTow_chassis]
        split <;> rfl
      · split <;> rfl
  | driveSet =>
    simp only [runBody, driveSetBody]
    split
    · trivial
    · exact .of_eq (takeThrottle_chassis _ s)
  | driveHold | stopAll => exact .of_eq (by simp)
  | winchRun =>
    simp only [runBody, winchRunBody]
    split
    · trivial
    · split
      · trivial
      · exact .refl _
  | winchStop => exact .of_eq (endWinchOp_chassis _ s)
  | winchToLength =>
    simp only [runBody, winchToLengthBody]
    split
    · trivial
    · split
      · trivial
      · split
        · trivial
        · exact .refl _
  | winchReference =>
    simp only [runBody, winchReferenceBody]
    split
    · trivial
    · split
      · trivial
      · exact .refl _
  | towAssist =>
    simp only [runBody, towAssistBody]
    split
    · unfold towAssistOnBody
      split
      · exact .refl _
      · split
        · trivial
        · split
          · trivial
          · split
            · trivial
            · exact .refl _
    · exact .of_eq (endTow_chassis _ s)
  | lightWrite =>
    simp only [runBody, lightWriteBody]
    split
    · trivial
    · exact ⟨rfl, rfl, rfl⟩
  | lightDefine =>
    simp only [runBody, lightDefineBody]
    split
    · trivial
    · split
      · trivial
      · exact ⟨rfl, rfl, rfl⟩
  | showPattern =>
    simp only [runBody, showPatternBody]
    split
    · split <;> exact .of_eq (supersede_chassis s)
    · trivial
  | overlaySet =>
    simp only [runBody, overlaySetBody]
    split
    · trivial
    · exact .refl _
  | reportLights =>
    simp only [runBody, reportLightsBody]
    split
    · exact .refl _
    · exact .refl _
    · exact .refl _
    · split
      · trivial
      · exact .refl _
    · split
      · trivial
      · exact .refl _
  | supplyClear =>
    simp only [runBody, supplyClearBody]
    split
    · split
      · exact .of_eq (changeStage_chassis _ _ s)
      · trivial
    all_goals exact .refl _

/-! ## The commands that move them -/

/-- A stored field that keeps the profile in order keeps the whole condition. -/
theorem storeFits_storeField {s : State} {f : Field} {v : Int} (h : storeFits s)
    (hp : profileFits (s.chassis.profile.set f v) = true) : storeFits (storeField f v s) := by
  rw [SteerCommands.storeField_eq]
  exact ⟨hp, h.2⟩

theorem storeFits_profileWriteBody (l : Link) (c : Command) {s : State} (h : storeFits s) :
    Leaves storeFits (profileWriteBody l c s) := by
  unfold profileWriteBody
  split
  · trivial
  · next f _ =>
    dsimp only
    split
    · next ho =>
      have ready : storeFits (restartWhenChanged f (clampField f (s32At c.params 1))
          (postWhenChanged l f (clampField f (s32At c.params 1)) s)) := storeFits_of_kept h (.of_eq (by simp))
      refine storeFits_of_kept (storeFits_storeField ready ?_) (.of_eq (fieldWritten_chassis f _))
      rw [restartWhenChanged_chassis, postWhenChanged_chassis]
      exact profileFits_set h.1 (clampField_fits f _) ho
    · trivial

theorem storeFits_profileCommitBody (l : Link) (c : Command) {s : State} (h : storeFits s) :
    Leaves storeFits (profileCommitBody l c s) := by
  unfold profileCommitBody
  split
  · trivial
  · obtain ⟨hprofile, -, himage⟩ := h
    exact ⟨hprofile, fun c hc => Option.some.inj hc ▸ hprofile, himage⟩

/-- A profile read from the image keeps the condition, the snapshot and the image as they are. -/
theorem storeFits_of_read {s t : State} (h : storeFits s)
    (hprofile : t.chassis.profile = (readImage s.chassis.image).profile)
    (hsnapshot : t.chassis.snapshot = s.chassis.snapshot) (himage : t.chassis.image = s.chassis.image) :
    storeFits t := by
  unfold storeFits
  rw [hprofile, hsnapshot, himage]
  exact ⟨readImage_profile_fits h.2.2, h.2⟩

theorem storeFits_profileRestoreBody (l : Link) (c : Command) {s : State} (h : storeFits s) :
    Leaves storeFits (profileRestoreBody l c s) := by
  unfold profileRestoreBody
  split
  · trivial
  · refine storeFits_of_read h ?_ ?_ ?_ <;> rw [restoredEffects_chassis] <;> rfl

theorem chassisResetAll_chassis (s : State) : (chassisResetAll s).chassis = { s.chassis with
    profile := (readImage s.chassis.image).profile
    status := (readImage s.chassis.image).status
    unsaved := false } := by
  simp [chassisResetAll]

theorem storeFits_chassisResetBody (l : Link) (c : Command) {s : State} (h : storeFits s) :
    Leaves storeFits (chassisResetBody l c s) := by
  unfold chassisResetBody
  split
  · trivial
  · refine storeFits_of_read h ?_ ?_ ?_ <;> rw [chassisResetAll_chassis]

theorem storeFits_runBody (n : CmdName) (l : Link) (c : Command) {s : State} (h : storeFits s) :
    Leaves storeFits (runBody n l c s) := by
  by_cases hn : n ∈ storeCommands
  · simp only [storeCommands, List.mem_cons, List.not_mem_nil, or_false] at hn
    rcases hn with rfl | rfl | rfl | rfl | rfl
    · exact storeFits_chassisResetBody l c h
    · exact storeFits_profileWriteBody l c h
    · exact storeFits_profileCommitBody l c h
    · exact storeFits_profileRestoreBody l c h
    · exact storeFits_storeField h (profileFits_setTrim h.1 _ _)
  · exact leaves_mono (runBody_storeKept hn l c s) fun _ k => storeFits_of_kept h k

/-! ## The events that move them -/

theorem storeFits_powerOn {s : State} (h : storeFits s) : storeFits (powerOn s) :=
  ⟨readImage_profile_fits h.2.2, fun _ hc => (nomatch hc), h.2.2⟩

/-- The loss of power leaves the image or breaks it, and a broken image is not a good one (R182). -/
theorem storeFits_losePower {s : State} (h : storeFits s) : storeFits (losePower s) := by
  unfold losePower
  split
  · next c _ _ =>
    obtain ⟨hprofile, hsnapshot, -⟩ := h
    refine ⟨hprofile, hsnapshot, fun hg => ?_⟩
    rw [brokenImage_bad] at hg
    cases hg
  · exact h

/-- The write that completes puts the snapshot, which is in order, into the image (R182). -/
theorem storeFits_commitComplete {s : State} (h : storeFits s) : storeFits (commitComplete s) := by
  unfold commitComplete
  split
  · next c _ hc =>
    obtain ⟨hprofile, hsnapshot, -⟩ := h
    refine storeFits_of_kept ?_ (.of_eq (endOp_chassis _ _ _))
    exact ⟨hprofile, fun _ hn => (nomatch hn), fun _ => hsnapshot c hc⟩
  · exact h

theorem storeFits_tick {s : State} (h : storeFits s) : storeFits (tick s) := by
  unfold tick
  split
  · exact h
  · exact h

theorem storeFits_settlingEnd {s : State} (h : storeFits s) : storeFits (settlingEnd s) := by
  unfold settlingEnd
  split
  · exact h
  · exact h

/-! ## Every step -/

theorem storeFits_settle {e : Exec} {s : State} (h : storeFits s) (he : Leaves storeFits e) (l : Link) (n : CmdName)
    (c : Command) : storeFits (settle l n c s e).st := by
  cases e with
  | good reply t => exact storeFits_of_kept he (.of_eq (markCommander_chassis l n t))
  | accepted k reply t =>
    exact storeFits_of_kept he (.of_eq ((markCommander_chassis l n _).trans (fillOp_chassis l n k c.tag t)))
  | check r v => exact h
  | conflict => exact h

/-- Each step of the screening answers without an execution or leaves what the execution left (R3). -/
theorem storeFits_screen {s : State} (h : storeFits s) (l : Link) (c : Command) : storeFits (screen l c s).st := by
  unfold screen
  split
  · exact h
  · split
    · exact h
    · next n _ =>
      split
      · exact h
      · split
        · exact h
        · unfold execute
          split
          · exact h
          · exact storeFits_settle h (storeFits_runBody n l c h) l n c

theorem storeFits_arrive {s : State} (h : storeFits s) (l : Link) (c : Command) : storeFits (arrive l c s) := by
  cases hs : (s.ports.get l).slot with
  | none =>
    rw [arrive_free hs]
    exact storeFits_screen (s := taken l c s) h l c
  | some x =>
    rw [arrive_full (by simp [hs])]
    exact h

theorem storeFits_receiveByte {s : State} (h : storeFits s) (l : Link) (b : Byte) : storeFits (receiveByte l b s) := by
  unfold receiveByte
  dsimp only
  split
  · unfold completeFrame
    split
    · split
      · exact storeFits_arrive (s := setPort l _ s) h l _
      · exact h
    · exact h
  · exact h

theorem storeFits_event {f : State → State} {s t : State} (ht : event f s = .next t) (h : storeFits s)
    (hf : storeFits (f s)) : storeFits t := by
  cases hp : s.powered with
  | true =>
    rw [event_powered hp, Host.Outcome.next.injEq] at ht
    exact ht ▸ storeFits_of_kept hf (.of_eq (arbitrate_chassis (f s)))
  | false =>
    rw [event_unpowered hp, Host.Outcome.next.injEq] at ht
    exact ht ▸ h

theorem storeFits_event_of_chassis {f : State → State} {s t : State} (ht : event f s = .next t) (h : storeFits s)
    (hf : (f s).chassis = s.chassis) : storeFits t :=
  storeFits_event ht h (storeFits_of_kept h (.of_eq hf))

theorem eventWhen_chassis {α : Type} [DecidableEq α] (x : α) {f : State → State × List α} {s : State}
    (hf : (f s).1.chassis = s.chassis) : (eventWhen x f s).chassis = s.chassis :=
  eventWhen_keeps (P := fun t => t.chassis = s.chassis) x rfl hf

theorem storeFits_powerRow {s : State} (h : storeFits s) : storeFits (if s.powered then losePower s else s) := by
  split
  · exact storeFits_losePower h
  · exact h

/-- The event rows: the power, a commit's completion, and bytes received move the store; the periods do not. -/
theorem storeFits_eventRow {i : Instr} {s t : State} (hi : instrFrame i = none) (h : storeFits s)
    (ht : exec i s = .next t) : storeFits t := by
  cases i with
  | powerOn =>
    obtain rfl := Host.Outcome.next.inj ht
    exact storeFits_powerOn (storeFits_powerRow h)
  | powerLoss =>
    obtain rfl := Host.Outcome.next.inj ht
    exact storeFits_powerRow h
  | frameReceived l b => exact storeFits_event ht h (storeFits_receiveByte h l b)
  | byteReceived l b broken =>
    cases broken with
    | false => exact storeFits_event ht h (storeFits_receiveByte h l b)
    | true => exact storeFits_event ht h h
  | frameByteTimeout l | transmitFrameEnd l | servoFrame a => exact storeFits_event ht h h
  | commitWriteComplete => exact storeFits_event ht h (storeFits_commitComplete h)
  | settlingEnd => exact storeFits_event ht h (storeFits_settlingEnd h)
  | silenceTimeout l => exact storeFits_event_of_chassis ht h (silenceTimeout_chassis l s)
  | motionPeriod m => exact storeFits_event_of_chassis ht h (motionPeriod_chassis m s)
  | drumCount dir => exact storeFits_event_of_chassis ht h (drumCount_chassis dir s)
  | regulatorPeriod w n c =>
    exact storeFits_event_of_chassis (f := fun s => (regulatorPeriod w n c s).1) ht h (regulatorPeriod_chassis w n c s)
  | holdCreepExceeded w n c | holdSettleEnd w n c | stallTimeReached w n c | stallRestEnd w n c | faultRestEnd w n c
  | faultWindowClose w n c =>
    exact storeFits_event_of_chassis ht h (eventWhen_chassis _ (regulatorPeriod_chassis w n c s))
  | winchPeriod c => exact storeFits_event_of_chassis (f := fun s => (winchPeriod c s).1) ht h (winchPeriod_chassis c s)
  | referenceDetected c | referenceTimeout c | loadHoldEntry c =>
    exact storeFits_event_of_chassis ht h (eventWhen_chassis _ (winchPeriod_chassis c s))
  | lightFrameBoundary =>
    exact storeFits_event_of_chassis (f := fun s => (lightBoundary s).1) ht h (lightBoundary_chassis s)
  | playbackCountdown | fadeEnd => exact storeFits_event_of_chassis ht h (eventWhen_chassis _ (lightBoundary_chassis s))
  | supplyPeriod x shunt =>
    exact storeFits_event_of_chassis (f := fun s => (supplyPeriod x shunt s).1) ht h (supplyPeriod_chassis x shunt s)
  | dwellDownReached x shunt | dwellUpReached x shunt =>
    exact storeFits_event_of_chassis ht h (eventWhen_chassis _ (supplyPeriod_chassis x shunt s))
  | _ => cases hi

theorem storeFits_exec {i : Instr} {s t : State} (h : storeFits s) (ht : exec i s = .next t) : storeFits t := by
  cases hi : instrFrame i with
  | some lc =>
    obtain ⟨l, c⟩ := lc
    rw [exec_of_frame hi] at ht
    exact storeFits_event ht h (storeFits_arrive h l c)
  | none => exact storeFits_eventRow hi h ht

/-- Settles O58: an idle step moves none of the three, and each row keeps them in order. Power-on keeps them only because
the image that it reads is in order, so this is not a property that the primitive effects keep by themselves. -/
theorem everyStepKeepsTheProfileInOrder : Obligations.EveryStepKeepsTheProfileInOrder := by
  intro s t h ht
  cases hq : s.pending with
  | nil =>
    rw [LinksAndFrames.step_idle hq, Host.Outcome.next.injEq] at ht
    exact ht ▸ storeFits_tick h
  | cons i rest =>
    rw [step, hq] at ht
    exact storeFits_exec (s := { s with pending := rest }) h ht

end Sys2Proof.Machine.ProfileStore
end

section
/-! Chassis reset: every block at its reset values, and the silence timers compared with the reloaded timeouts (R173, R185). -/

namespace Sys2Proof.Machine.ProfileStore

open MotionGeometry LightEngine

/-! ## A silence without effect (R22) -/

/-- No link answers for a unit, no tow link exists, and every pattern is closed. -/
structure Unowned (s : State) : Prop where
  holders : s.disp.holders = ⟨none, none, none, none, none⟩
  last : s.disp.last = ⟨none, none, none, none⟩
  tow : s.winch.tow = none
  closed : ∀ i : Fin 16, s.lights.table[i].openBy = none

theorem Unowned.setPort {s : State} (h : Unowned s) (l : Link) (q : Port) : Unowned (setPort l q s) :=
  ⟨h.holders, h.last, h.tow, h.closed⟩

theorem Unowned.answersFor {s : State} (h : Unowned s) (l : Link) (u : UnitId) : answersFor l u s = false := by
  simp only [Machine.answersFor, h.holders, h.last]
  cases u <;> rfl

theorem Unowned.driveAffected {s : State} (h : Unowned s) (l : Link) : driveAffected l s = false := by
  rw [Machine.driveAffected, h.answersFor, Bool.false_and]

theorem Unowned.ownsTow {s : State} (h : Unowned s) (l : Link) : ownsTow l s = false := by
  rw [Machine.ownsTow, h.tow]

theorem closeLink_of_closed {x : Lights} (h : ∀ i : Fin 16, x.table[i].openBy = none) (l : Link) :
    closeLink l x = x := by
  have table : mapOpen (fun r => if r.openBy = some l then none else r.openBy) x.table = x.table := by
    refine Vector.ext fun i hi => ?_
    have hclosed : x.table[i].openBy = none := h ⟨i, hi⟩
    rw [mapOpen, vecMap_get, hclosed, if_neg nofun, ← hclosed]
  rw [closeLink, table]

/-- A silence that affects no unit and closes no pattern has no failsafe (R22). -/
theorem failsafe_of_unowned {s : State} (h : Unowned s) (l : Link) : failsafe l s = s := by
  simp [failsafe, h.driveAffected, h.answersFor, h.ownsTow, closeLink_of_closed h.closed]

theorem goSilent_of_unowned {s : State} (h : Unowned s) (l : Link) : goSilent l s =
    setPort l { s.ports.get l with link := .silent, silence := none, failsafeFlag := false } s :=
  failsafe_of_unowned (h.setPort l _) l

/-! ## The silence comparison (R173) -/

/-- A port after the silence comparison of chassis reset. -/
def silenceCompared (timeout : Nat) (q : Port) : Port :=
  match q.link with
  | .silent => q
  | .active =>
    if timeout = 0 then { q with silence := none }
    else match q.silence with
      | none => { q with silence := some 0 }
      | some e => if timeout ≤ e then { q with link := .silent, silence := none, failsafeFlag := false } else q

/-- The silence comparison of a part that no link has a hold on concerns the port alone. -/
theorem resetSilence_of_unowned {s : State} (h : Unowned s) (l : Link) : resetSilence l s =
    setPort l (silenceCompared (timeoutOf s.chassis.profile l) (s.ports.get l)) s := by
  have unchanged : s = setPort l (s.ports.get l) s := by simp [setPort]
  cases hl : (s.ports.get l).link with
  | silent => simpa only [resetSilence, silenceCompared, hl] using unchanged
  | active =>
    by_cases ht : timeoutOf s.chassis.profile l = 0
    · simp only [resetSilence, silenceCompared, hl, ht, if_true]
    · cases he : (s.ports.get l).silence with
      | none => simp only [resetSilence, silenceCompared, hl, ht, he, if_false]
      | some e =>
        by_cases hd : timeoutOf s.chassis.profile l ≤ e
        · simp only [resetSilence, silenceCompared, hl, ht, he, hd, if_true, if_false, goSilent_of_unowned h]
        · simpa only [resetSilence, silenceCompared, hl, ht, he, hd, if_false] using unchanged

/-- A timer that has reached the timeout makes its link SILENT (R173). -/
theorem silenceCompared_of_due {timeout : Nat} {q : Port}
    (h : q.link = .active ∧ timeout ≠ 0 ∧ ∃ e, q.silence = some e ∧ timeout ≤ e) : silenceCompared timeout q =
      { q with link := .silent, silence := none, failsafeFlag := false } := by
  obtain ⟨hl, ht, e, he, hd⟩ := h
  simp only [silenceCompared, hl, ht, he, hd, if_true, if_false]

/-- Every other timer of an ACTIVE link stops at a timeout of 0, starts when it stood, or runs on (R173). -/
theorem silenceCompared_of_not_due {timeout : Nat} {q : Port}
    (h : ¬(q.link = .active ∧ timeout ≠ 0 ∧ ∃ e, q.silence = some e ∧ timeout ≤ e)) :
    silenceCompared timeout q = { q with
      silence := if q.link = .silent then q.silence else if timeout = 0 then none
        else some (q.silence.getD 0) } := by
  obtain ⟨_, _, _, _, _, _, _, _, _, _, silence, link, _⟩ := q
  cases link with
  | silent => rfl
  | active =>
    by_cases ht : timeout = 0
    · simp [silenceCompared, ht]
    · cases silence with
      | none => simp [silenceCompared, ht]
      | some e =>
        have hd : ¬timeout ≤ e := fun hd => h ⟨rfl, ht, e, rfl, hd⟩
        simp [silenceCompared, ht, hd]

/-! ## The reset (R185) -/

/-- The blocks at their reset values, before the silence comparison. -/
def blocksReset (s : State) : State :=
  let r := readImage s.chassis.image
  { s with
    disp := .reset
    ports := s.ports.map fun _ q => q.chassisReset
    drive := driveChassisReset s.supply.stage
    wheels := s.wheels.map Channel.chassisReset
    steer := steerChassisReset s.steer
    winch := winchChassisReset s.winch
    alloc := allocChassisReset s.supply.stage s.alloc
    lights := lightsChassisReset r.profile r.store r.table s.lights
    chassis := { s.chassis with profile := r.profile, status := r.status, unsaved := false } }

theorem chassisResetAll_eq_resetSilence (s : State) :
    chassisResetAll s = resetSilence .s (resetSilence .w (resetSilence .p (blocksReset s))) := rfl

theorem blocksReset_unowned (s : State) : Unowned (blocksReset s) :=
  ⟨rfl, rfl, rfl, fun i => congrArg Record.openBy (tableOf_get (readImage s.chassis.image).table i)⟩

/-- Chassis reset is the reset of every block, with the silence comparison at each port. -/
theorem chassisResetAll_eq (s : State) : chassisResetAll s = { blocksReset s with
    ports := s.ports.map fun m q =>
      silenceCompared (timeoutOf (readImage s.chassis.image).profile m) q.chassisReset } := by
  have hp := blocksReset_unowned s
  have hw := hp.setPort .p (silenceCompared (timeoutOf (blocksReset s).chassis.profile .p) ((blocksReset s).ports.get .p))
  rw [chassisResetAll_eq_resetSilence, resetSilence_of_unowned hp, resetSilence_of_unowned hw,
    resetSilence_of_unowned (hw.setPort .w _)]
  rfl

theorem chassisResetBody_of_settling {s : State} (h : s.chassis.imageState = .settling) (l : Link) (c : Command) :
    chassisResetBody l c s = .check (.notReady .commitActive) none := if_pos h

theorem chassisResetBody_of_ready {s : State} (h : s.chassis.imageState = .ready) (l : Link) (c : Command) :
    chassisResetBody l c s = .good [] (chassisResetAll s) := by
  simp only [chassisResetBody, h, reduceCtorEq, if_false]

/-- CHASSIS has no last commander, so GOOD leaves what the execution left (R12). -/
theorem given_good_chassisReset (l : Link) (t u : Byte) (r q : State) (reply : List Byte) :
    given .chassisReset l t u r (.good reply q) = answered l t .good reply q := rfl

/-- The start-up source follows the record of the start-up pattern (R159). -/
theorem startUpLive_source (p : Profile) (x : Lights) : (startUpLive p x).source =
    if (x.defn (p.nat .startPattern)).defined then .pattern (p.nat .startPattern) else .level 0 := by
  unfold startUpLive
  dsimp only
  split <;> rw [Live.start_source]

theorem startUpLive_step (p : Profile) (x : Lights) : (startUpLive p x).play.step = 0 := by
  unfold startUpLive
  dsimp only
  split <;> simp [Live.start, Playback.start]

/-- Settles O36: the refusal, or the blocks at their reset values with the silence comparison at each port. -/
theorem chassisResetKeepsWhatTheRulesKeep : Obligations.ChassisResetKeepsWhatTheRulesKeep := by
  intro l t u b s h r
  have hgiven : exec (.chassisReset l t u b) s =
      .next (given .chassisReset l t u r (chassisResetBody l ⟨t, u, 0x02, b⟩ r)) := exec_given rfl h
  refine ⟨fun hs => ?_, fun hs => ?_⟩
  · rw [hgiven, chassisResetBody_of_settling (s := r) hs, given_check]
  · rw [chassisResetBody_of_ready (s := r) hs, given_good_chassisReset, chassisResetAll_eq] at hgiven
    refine ⟨_, hgiven, fun hg => ?_, fun hb => ?_, (blocksReset_unowned r).closed, rfl, fun m => ?_,
      ⟨rfl, rfl, rfl, rfl, rfl, rfl, rfl, rfl, rfl, rfl, rfl, rfl⟩, fun w => ?_, rfl, rfl, rfl, rfl,
      ⟨startUpLive_source _ _, startUpLive_step _ _⟩,
      ⟨rfl, rfl, rfl, rfl, rfl, rfl, rfl, rfl, rfl, rfl, rfl, rfl, rfl, rfl⟩, rfl, rfl, rfl⟩
    · rw [blocksReset, readImage_of_good (i := r.chassis.image) hg]
      exact ⟨rfl, rfl, defsOf_tableOf _⟩
    · rw [blocksReset, readImage_of_bad (i := r.chassis.image) hb]
      exact ⟨rfl, rfl, defsOf_tableOf _⟩
    · rw [PerLink.get_map]
      exact ⟨silenceCompared_of_due (q := (r.ports.get m).chassisReset),
        silenceCompared_of_not_due (q := (r.ports.get m).chassisReset)⟩
    · rw [blocksReset, PerWheel.get_map]
      exact ⟨rfl, rfl, rfl, rfl, rfl, rfl, rfl, rfl, rfl, rfl, rfl, rfl, rfl⟩

end Sys2Proof.Machine.ProfileStore
end

section
/-! Start-up and the loss of power (R182, R184), and the state right after power-on. -/

namespace Sys2Proof.Machine.ProfileStore

open MotionGeometry LightEngine

/-! ## Power-on (R184) -/

theorem exec_powerOn_of_unpowered {s : State} (h : s.powered = false) : exec .powerOn s = .next (powerOn s) := by
  show Host.Outcome.next (powerOn (if s.powered then losePower s else s)) = _
  rw [h, if_neg Bool.false_ne_true]

theorem exec_powerOn_of_powered {s : State} (h : s.powered = true) : exec .powerOn s = .next (powerOn (losePower s)) := by
  show Host.Outcome.next (powerOn (if s.powered then losePower s else s)) = _
  rw [if_pos h]

theorem exec_powerLoss_of_powered {s : State} (h : s.powered = true) : exec .powerLoss s = .next (losePower s) := by
  show Host.Outcome.next (if s.powered then losePower s else s) = _
  rw [if_pos h]

theorem losePower_powered (s : State) : (losePower s).powered = false := by
  unfold losePower
  split <;> rfl

/-- The endpoint clamp holds the pulse within the endpoints (R72). -/
theorem endpointClamp_fst (p : Profile) (a : Axle) (w : Int) :
    (endpointClamp p a w).1 = clampInt (axleMin p a) (axleMax p a) w := by
  rw [endpointClamp_eq]
  rfl

/-- At an angle of 0 the pulse is 1500 µs and the trim (R71). -/
theorem rawPulse_zero (p : Profile) (a : Axle) : rawPulse p a 0 = 1500 + axleTrim p a := by
  simp [rawPulse, roundDiv]

theorem steerPowerOn_eq (p : Profile) : steerPowerOn p = ⟨0, .front, 1000, ⟨0, 0⟩, ⟨0, 0⟩,
    ⟨clampInt (p.get .frontMin) (p.get .frontMax) (1500 + p.get .frontTrim),
      clampInt (p.get .rearMin) (p.get .rearMax) (1500 + p.get .rearTrim)⟩, ⟨.none, .none⟩, 0, 0⟩ := by
  simp only [steerPowerOn, endpointClamp_fst, rawPulse_zero]
  rfl

/-- Settles O4: an unpowered part is started from the reading of its image, and power-on of a powered one is the loss of
power before it. -/
theorem powerOnLoadsTheImage : Obligations.PowerOnLoadsTheImage := by
  refine ⟨fun s hs => ?_, fun s t hs ht => ?_⟩
  · refine ⟨powerOn s, exec_powerOn_of_unpowered hs, rfl, rfl, rfl, rfl, fun hg => ?_, fun hb => ?_, fun i => ?_, rfl,
      rfl, rfl, rfl, fun l => ?_, ⟨rfl, rfl, rfl, rfl, rfl, rfl, rfl, rfl, rfl, rfl, rfl, rfl⟩, fun w => ?_,
      steerPowerOn_eq _, ⟨rfl, rfl, rfl, rfl, rfl, rfl, rfl, rfl, rfl, rfl, rfl, rfl, rfl⟩,
      ⟨rfl, rfl, rfl, rfl, rfl, rfl, rfl, rfl, rfl, rfl⟩, rfl, ⟨startUpLive_source _ _, startUpLive_step _ _⟩,
      ⟨rfl, rfl, rfl, rfl, rfl, rfl, rfl, rfl, rfl, rfl, rfl, rfl, rfl, rfl⟩⟩
    · rw [powerOn, readImage_of_good hg]
      exact ⟨rfl, rfl, defsOf_tableOf _, rfl⟩
    · rw [powerOn, readImage_of_bad hb]
      exact ⟨rfl, rfl, defsOf_tableOf _, rfl⟩
    · exact congrArg Record.openBy (tableOf_get (readImage s.chassis.image).table i)
    · cases l <;> rfl
    · cases w <;> exact ⟨rfl, rfl, rfl, rfl, rfl, rfl, rfl, rfl, rfl, rfl, rfl, rfl⟩
  · rw [exec_powerLoss_of_powered hs, Host.Outcome.next.injEq] at ht
    rw [exec_powerOn_of_powered hs, ← ht, exec_powerOn_of_unpowered (losePower_powered s)]

/-! ## The loss of power (R182) -/

theorem losePower_of_not_writing {s : State} (h : s.chassis.imageState ≠ .writing) :
    losePower s = { s with powered := false } := by
  unfold losePower
  split
  · next hw _ => exact absurd hw h
  · rfl

theorem losePower_of_writing {s : State} {c : ImageContents} (h : s.chassis.imageState = .writing)
    (hc : s.chassis.snapshot = some c) : losePower s = { s with
      powered := false
      draws := s.draws + 1
      chassis := { s.chassis with image := brokenImage s.draws s.chassis.image c } } := by
  simp only [losePower, h, hc]

/-- Each item of a broken image is the new one or the old one (log entry 6). -/
theorem picked_or {α : Type} (b : Bool) (new old : α) :
    (if b then new else old) = new ∨ (if b then new else old) = old := by
  cases b
  · exact .inr rfl
  · exact .inl rfl

theorem brokenImage_profile (draw : Nat) (old : Image) (new : ImageContents) (f : Field) :
    (brokenImage draw old new).contents.profile.get f = new.profile.get f ∨
      (brokenImage draw old new).contents.profile.get f = old.contents.profile.get f := by
  simp only [brokenImage, Profile.get, Fin.getElem_fin, Vector.getElem_ofFn]
  exact picked_or _ _ _

theorem brokenImage_store (draw : Nat) (old : Image) (new : ImageContents) (i : Fin 64) :
    (brokenImage draw old new).contents.store[i] = new.store[i] ∨
      (brokenImage draw old new).contents.store[i] = old.contents.store[i] := by
  simp only [brokenImage, Fin.getElem_fin, Vector.getElem_ofFn]
  exact picked_or _ _ _

theorem brokenImage_table (draw : Nat) (old : Image) (new : ImageContents) (i : Fin 16) :
    (brokenImage draw old new).contents.table[i] = new.table[i] ∨
      (brokenImage draw old new).contents.table[i] = old.contents.table[i] := by
  simp only [brokenImage, Fin.getElem_fin, Vector.getElem_ofFn]
  exact picked_or _ _ _

/-- Settles O5: outside WRITING the part just stops, and in it the broken image takes the place of the image. -/
theorem powerLossBreaksAnImageBeingWritten : Obligations.PowerLossBreaksAnImageBeingWritten := by
  intro s hs
  rw [exec_powerLoss_of_powered hs]
  refine ⟨fun hw => by rw [losePower_of_not_writing hw], fun c hw hc => ?_⟩
  exact ⟨brokenImage s.draws s.chassis.image c, s.draws + 1, by rw [losePower_of_writing hw hc],
    brokenImage_bad s.draws s.chassis.image c, brokenImage_profile s.draws s.chassis.image c,
    brokenImage_store s.draws s.chassis.image c, brokenImage_table s.draws s.chassis.image c⟩

/-! ## The state right after power-on (R184) -/

theorem linksFit_reset : linksFit State.reset := by
  refine ⟨fun l => ?_, fun l => ?_⟩
  · cases l <;> rfl
  · cases l <;> exact List.nodup_singleton _

theorem storeFits_reset : storeFits State.reset :=
  ⟨defaults_fit, fun _ hc => (nomatch hc), fun hg => by
    have hbad : State.reset.chassis.image.good = false := blank_bad
    rw [hbad] at hg
    cases hg⟩

theorem outputsFit_reset : outputsFit State.reset := by
  refine ⟨⟨rfl, fun _ hg => (nomatch hg), fun _ hf => (nomatch hf)⟩, le_rfl, fun c => ?_⟩
  simp [State.reset, Lights.reset]

/-- Settles O54: the conditions of the links, the stored profile and the outputs by their lemmas, the others by the empty
slots, the idle winch and the factors of 1024. -/
theorem resetKeepsEveryCondition : Obligations.ResetKeepsEveryCondition :=
  ⟨linksFit_reset, (towFits_none rfl).mpr nofun, ⟨le_rfl, le_rfl, le_rfl, nofun⟩, storeFits_reset, ⟨rfl, rfl⟩,
    ⟨rfl, rfl, rfl, nofun, nofun⟩, ⟨rfl, nofun⟩, outputsFit_reset, targetsFit_reset⟩

end Sys2Proof.Machine.ProfileStore
end

section
/-! PROFILE WRITE and PROFILE COMMIT (R156, R173, R177 to R182). -/

namespace Sys2Proof.Machine.ProfileStore

open MotionGeometry

/-! ## PROFILE COMMIT and the image states (R180 to R182) -/

theorem profileCommitBody_of_settling {s : State} (h : s.chassis.imageState = .settling) (l : Link) (c : Command) :
    profileCommitBody l c s = .check (.notReady .commitActive) none := if_pos h

theorem profileCommitBody_of_other {s : State} (h : s.chassis.imageState ≠ .settling) (l : Link) (c : Command) :
    profileCommitBody l c s = .accepted .commit [] (startCommit s) := if_neg h

/-- An accepted commit fills the CHASSIS slot; CHASSIS has no last commander (R12, R17). -/
theorem given_accepted_profileCommit (l : Link) (t u : Byte) (r q : State) :
    given .profileCommit l t u r (.accepted .commit [] q) =
      answered l t .accepted [] (slotFilled .chassis .commit l t q) := rfl

theorem commitComplete_of_writing {s : State} {c : ImageContents} (h : s.chassis.imageState = .writing)
    (hc : s.chassis.snapshot = some c) : commitComplete s = endOp .chassis .good { s with
      chassis := { s.chassis with
        image := ⟨c, crc16 c.bytes⟩
        snapshot := none
        status := .loaded
        unsaved := s.chassis.unsaved && s.chassis.changedSince
        imageState := .settling
        settleElapsed := 0 } } := by
  have unsaved : (if s.chassis.changedSince then s.chassis.unsaved else false) =
      (s.chassis.unsaved && s.chassis.changedSince) := by
    cases s.chassis.changedSince <;> simp
  simp only [commitComplete, h, hc, unsaved]
  rfl

/-- Settles O34: the refusal or the acceptance, the end of the write, and the end of SETTLING. -/
theorem commitRunsThroughItsStates : Obligations.CommitRunsThroughItsStates := by
  refine ⟨fun l t u b s h => ?_, fun c s hp hw hc => ?_, fun s hp hw ht => ?_⟩
  · intro r
    have hgiven : exec (.profileCommit l t u b) s =
        .next (given .profileCommit l t u r (profileCommitBody l ⟨t, u, 0x05, b⟩ r)) := exec_given rfl h
    rw [hgiven]
    split
    · next hs => rw [profileCommitBody_of_settling (s := r) hs, given_check]
    · next hs =>
      rw [profileCommitBody_of_other (s := r) hs, given_accepted_profileCommit]
      rfl
  · rw [← commitComplete_of_writing hw hc]
    exact event_powered hp
  · have hend : settlingEnd s = { s with chassis := { s.chassis with imageState := .ready } } := if_pos ⟨hw, ht⟩
    rw [← hend]
    exact event_powered hp

/-! ## PROFILE WRITE (R177 to R179) -/

/-- A field that no source plays marks the ALERT layer where it is the selected alert's (R156). -/
theorem patternRewritten_of_other {f : Field} (hi : f ≠ .indicatorPattern) (hb : f ≠ .brakePattern)
    (hr : f ≠ .reversePattern) (x : Lights) : patternRewritten f x =
      if x.alert.selected.map Alert.field = some f then { x with alert := { x.alert with rewritten := true } } else x := by
  unfold patternRewritten
  split
  · exact absurd rfl hi
  · exact absurd rfl hb
  · exact absurd rfl hr
  · rfl

/-- The selected alert's field is the written one (R156). -/
theorem selectedField_iff (a : Option Alert) (f : Field) : a.map Alert.field = some f ↔
    f = .failsafePattern ∧ a = some .failsafe ∨ f = .cutoffPattern ∧ a = some .cutoff ∨
      f = .limitPattern ∧ a = some .limit ∨ f = .winchLoadPattern ∧ a = some .winchLoad ∨
      f = .conservePattern ∧ a = some .conserve := by
  cases a with
  | none => simp
  | some a => cases a <;> simp [Alert.field, eq_comm]

theorem profileWriteBody_of_unknown {c : Command} (h : Field.ofNumber (byteAt c.params 0).toNat = none) (l : Link)
    (s : State) : profileWriteBody l c s = .check (.illegal .fieldUnknown) none := by
  simp only [profileWriteBody, h]

theorem profileWriteBody_of_disorder {c : Command} {f : Field} {s : State}
    (h : Field.ofNumber (byteAt c.params 0).toNat = some f)
    (ho : orderRulesFor f (s.chassis.profile.set f (clampField f (s32At c.params 1))) = false) (l : Link) :
    profileWriteBody l c s = .check (.illegal .orderViolation) none := by
  simp only [profileWriteBody, h, ho, Bool.false_eq_true, if_false]

/-- A write that is in order replies the number, the stored value and its flag, and makes the field's effect on the part
with the value stored. -/
theorem profileWriteBody_of_order {c : Command} {f : Field} {s : State}
    (h : Field.ofNumber (byteAt c.params 0).toNat = some f)
    (ho : orderRulesFor f (s.chassis.profile.set f (clampField f (s32At c.params 1))) = true) (l : Link) :
    let sent := s32At c.params 1
    let v := clampField f sent
    let changed := decide (s.chassis.profile.get f ≠ v)
    profileWriteBody l c s = .good (byteAt c.params 0 :: (bytes4 v ++ [if sent = v then 0 else 1]))
      (fieldWritten f { s with
        chassis := { s.chassis with
          profile := s.chassis.profile.set f v
          unsaved := s.chassis.unsaved || changed
          changedSince := s.chassis.changedSince || changed }
        lights := if changed = true then patternRewritten f s.lights else s.lights
        disp := { s.disp with attention := s.disp.attention.map fun i q =>
          if i ≠ l ∧ changed = true then postKind .profileChanged q else q } }) := by
  intro sent v changed
  have number : byteOf f.row.number = byteAt c.params 0 := by
    rw [Field.number_of_ofNumber h]
    simp [byteOf]
  have stored : storeField f v (restartWhenChanged f v (postWhenChanged l f v s)) = { s with
      chassis := { s.chassis with
        profile := s.chassis.profile.set f v
        unsaved := s.chassis.unsaved || changed
        changedSince := s.chassis.changedSince || changed }
      lights := if changed = true then patternRewritten f s.lights else s.lights
      disp := { s.disp with attention := s.disp.attention.map fun i q =>
        if i ≠ l ∧ changed = true then postKind .profileChanged q else q } } := by
    by_cases hv : s.chassis.profile.get f = v
    · simp [SteerCommands.storeField_eq, restartWhenChanged, postWhenChanged, hv, changed, PerLink.map]
    · simp [SteerCommands.storeField_eq, restartWhenChanged, postWhenChanged, hv, changed, postOthers, setLights]
  simp only [profileWriteBody, h, if_pos ho, SteerCommands.clampedFlag_eq_ite, number]
  rw [stored]

/-- Only A_lock, cp100, L_max and the silence timeouts do something at their write (R177). -/
theorem fieldWritten_of_other {f : Field} (ha : f ≠ .lockAngle) (hc : f ≠ .cp100) (hp : f ≠ .payoutLimit)
    (ht : ∀ l, f ≠ .silenceTimeout l) (s : State) : fieldWritten f s = s := by
  unfold fieldWritten
  split
  · exact absurd rfl ha
  · exact absurd rfl hc
  · exact absurd rfl hp
  · exact absurd rfl (ht _)
  · rfl

/-- CHASSIS has no last commander, so GOOD leaves what the execution left (R12). -/
theorem given_good_profileWrite (l : Link) (t u : Byte) (r q : State) (reply : List Byte) :
    given .profileWrite l t u r (.good reply q) = answered l t .good reply q := rfl

/-- Settles O33: the refusals, the stored value, and the effects of the fields at their writes. -/
theorem profileWriteStoresTheClampedValue : Obligations.ProfileWriteStoresTheClampedValue := by
  refine ⟨fun l t u b s h => ?_, fun s => ⟨rfl, fun l => rfl, fun f hf => ?_, fun f ha hc hp ht => ?_⟩⟩
  · intro r refused
    have hgiven : exec (.profileWrite l t u b) s =
        .next (given .profileWrite l t u r (profileWriteBody l ⟨t, u, 0x04, b⟩ r)) := exec_given rfl h
    refine ⟨fun hf => ?_, fun f hf => ?_⟩
    · rw [hgiven, profileWriteBody_of_unknown (c := ⟨t, u, 0x04, b⟩) hf, given_check]
    · intro sent v changed x marked
      refine ⟨fun ho => ?_, fun ho => ?_⟩
      · rw [hgiven, profileWriteBody_of_disorder (c := ⟨t, u, 0x04, b⟩) (s := r) hf ho, given_check]
      have hmarked : marked = patternRewritten f x := by
        unfold marked
        split
        · rfl
        · rfl
        · rfl
        · next hi hb hr => simp only [patternRewritten_of_other hi hb hr, selectedField_iff]
      rw [hgiven, profileWriteBody_of_order (c := ⟨t, u, 0x04, b⟩) (s := r) hf ho, given_good_profileWrite, hmarked]
      rfl
  · rcases hf with rfl | rfl <;> rfl
  · exact fieldWritten_of_other ha hc hp ht s

end Sys2Proof.Machine.ProfileStore
end

section
/-! What an effect within an event leaves in order: the ports apart from what it offers, the attention queues, and the
three long-operation slots with their units (R16, R17, R161, R164, R167, R169). -/

namespace Sys2Proof.Machine.Order

/-! ## The lines -/

/-- A port on which an event has offered notices or emptied the queue, and whose timers, mask and flags may have moved. -/
structure PortHeld (q r : Port) : Prop where
  assembly : r.assembly = q.assembly
  buffer : r.buffer = q.buffer
  slot : r.slot = q.slot
  status : r.status = q.status
  tx : r.tx = q.tx
  notices : r.notices.length ≤ q.notices.length

theorem PortHeld.refl (q : Port) : PortHeld q q := ⟨rfl, rfl, rfl, rfl, rfl, le_rfl⟩

theorem PortHeld.trans {a b c : Port} (h : PortHeld a b) (k : PortHeld b c) : PortHeld a c where
  assembly := k.assembly.trans h.assembly
  buffer := k.buffer.trans h.buffer
  slot := k.slot.trans h.slot
  status := k.status.trans h.status
  tx := k.tx.trans h.tx
  notices := k.notices.trans h.notices

theorem portHeld_offer (n : Notice) (q : Port) : PortHeld q (q.offer n) := by
  obtain ⟨⟨hassembly, hbuffer, hslot, -⟩, hstatus, htx, -, hnotices⟩ := q.offer_kept n
  exact ⟨hassembly, hbuffer, hslot, hstatus, htx, hnotices ▸ le_rfl⟩

/-- Every port is held so, no kind comes to stand twice in an attention queue (R16), and the queue of waiting commands and
events is left alone. -/
structure LinesHeld (s t : State) : Prop where
  queue : t.pending = s.pending
  ports : ∀ l, PortHeld (s.ports.get l) (t.ports.get l)
  attention : ∀ l, (s.disp.attention.get l).Nodup → (t.disp.attention.get l).Nodup

theorem LinesHeld.refl (s : State) : LinesHeld s s := ⟨rfl, fun _ => .refl _, fun _ h => h⟩

theorem LinesHeld.trans {a b c : State} (h : LinesHeld a b) (k : LinesHeld b c) : LinesHeld a c :=
  ⟨k.queue.trans h.queue, fun l => (h.ports l).trans (k.ports l), fun l hl => k.attention l (h.attention l hl)⟩

theorem linesHeld_of_eq {s t : State} (hqueue : t.pending = s.pending) (hports : t.ports = s.ports)
    (hattention : t.disp.attention = s.disp.attention) : LinesHeld s t :=
  ⟨hqueue, fun l => by rw [hports]; exact .refl _, fun l h => by rwa [hattention]⟩

theorem linesHeld_setLights (x : Lights) (s : State) : LinesHeld s (setLights x s) := linesHeld_of_eq rfl rfl rfl

theorem linesHeld_setChassis (x : Chassis) (s : State) : LinesHeld s (setChassis x s) := linesHeld_of_eq rfl rfl rfl

theorem linesHeld_setPort {l : Link} {q : Port} {s : State} (h : PortHeld (s.ports.get l) q) :
    LinesHeld s (setPort l q s) := by
  refine ⟨rfl, fun m => ?_, fun _ h => h⟩
  by_cases hm : m = l
  · subst hm
    rwa [setPort_get_same]
  · rw [setPort_get_other q s hm]
    exact .refl _

theorem linesHeld_offer (n : Notice) (s : State) : LinesHeld s (offer n s) :=
  ⟨rfl, fun l => by rw [offer_get]; exact portHeld_offer n _, fun _ h => h⟩

theorem linesHeld_handDone (u : UnitId) (op : LongOp) (r : OpResult) (s : State) : LinesHeld s (handDone u op r s) := by
  unfold handDone
  split
  · exact linesHeld_setPort ⟨rfl, rfl, rfl, rfl, rfl, le_rfl⟩
  · exact .refl s

theorem linesHeld_endOp (u : UnitId) (r : OpResult) (s : State) : LinesHeld s (endOp u r s) := by
  cases hop : s.disp.op u with
  | none =>
    rw [endOp_of_none hop]
    exact .refl s
  | some op =>
    rw [endOp_of_some hop]
    obtain ⟨hqueue, hports, -⟩ := linesHeld_handDone u op r s
    refine ⟨hqueue, hports, fun l h => ?_⟩
    cases u <;> exact h

/-! ## The conditions of the slots -/

theorem commitFits_congr {s t : State} (h : commitFits s) (hop : t.disp.chassisOp = s.disp.chassisOp)
    (hstate : t.chassis.imageState = s.chassis.imageState) (hsnapshot : t.chassis.snapshot = s.chassis.snapshot) :
    commitFits t := by
  unfold commitFits
  rwa [hop, hstate, hsnapshot]

theorem lightsFit_congr {s t : State} (h : lightsFit s) (hop : t.disp.lightsOp = s.disp.lightsOp)
    (hbase : t.lights.base = s.lights.base) : lightsFit t := by
  unfold lightsFit
  rwa [hop, hbase]

theorem winchFits_congr {s t : State} (h : winchFits s) (hop : t.disp.winchOp = s.disp.winchOp)
    (hwinch : t.winch = s.winch)
    (hlimit : t.chassis.profile.nat .payoutLimit = s.chassis.profile.nat .payoutLimit) : winchFits t := by
  unfold winchFits
  rwa [hop, hwinch, hlimit]

/-- A winch that runs no operation: its slot is empty and it has no move. -/
structure WinchRests (s : State) : Prop where
  slot : s.disp.winchOp = none
  kind : winchKind s.winch.state = none
  target : s.winch.moveTarget = none
  direction : s.winch.moveDir = none

theorem state_ne_of_kind {w : WinchState} (h : winchKind w = none) : w ≠ .move ∧ w ≠ .reference := by
  cases w <;> simp_all [winchKind]

theorem winchFits_of_rests {s : State} (h : WinchRests s) : winchFits s := by
  obtain ⟨hslot, hkind, htarget, hdir⟩ := h
  obtain ⟨hmove, href⟩ := state_ne_of_kind hkind
  refine ⟨by rw [hslot, hkind]; rfl, ?_, ?_, ?_, fun h => absurd h href⟩
  · simp [htarget, hmove]
  · simp [hdir, hmove]
  · simp [hdir]

/-- A winch in order whose state runs no operation rests. -/
theorem winchRests_of_kind {s : State} (h : winchFits s) (hkind : winchKind s.winch.state = none) : WinchRests s := by
  obtain ⟨hslot, htarget, hdir, -⟩ := h
  obtain ⟨hmove, -⟩ := state_ne_of_kind hkind
  rw [hkind] at hslot
  exact ⟨by simpa using hslot, hkind, by simpa [hmove] using htarget, by simpa [hmove] using hdir⟩

/-- A winch in order with an empty slot rests (R17, R83). -/
theorem winchRests_of_slot {s : State} (h : winchFits s) (hslot : s.disp.winchOp = none) : WinchRests s := by
  refine winchRests_of_kind h ?_
  rw [← h.1, hslot]
  rfl

/-- What an effect within an event leaves in order beside the winch. -/
structure Aside (s t : State) : Prop where
  lines : LinesHeld s t
  commit : commitFits s → commitFits t
  lights : lightsFit s → lightsFit t

/-- What an effect within an event leaves in order; the winch where `H` holds, a condition on the profile. -/
structure Orderly (H : Prop) (s t : State) : Prop extends Aside s t where
  winch : H → winchFits s → winchFits t

variable {H : Prop}

theorem Aside.refl (s : State) : Aside s s := ⟨.refl s, id, id⟩

theorem Aside.trans {a b c : State} (h : Aside a b) (k : Aside b c) : Aside a c :=
  ⟨h.lines.trans k.lines, fun ha => k.commit (h.commit ha), fun ha => k.lights (h.lights ha)⟩

theorem Orderly.refl (s : State) : Orderly H s s := ⟨.refl s, fun _ => id⟩

theorem Orderly.trans {a b c : State} (h : Orderly H a b) (k : Orderly H b c) : Orderly H a c :=
  ⟨h.toAside.trans k.toAside, fun hh ha => k.winch hh (h.winch hh ha)⟩

/-! ## One part of the state replaced -/

theorem orderly_setPort {l : Link} {q : Port} {s : State} (h : PortHeld (s.ports.get l) q) :
    Orderly H s (setPort l q s) := ⟨⟨linesHeld_setPort h, id, id⟩, fun _ => id⟩

theorem orderly_offer (n : Notice) (s : State) : Orderly H s (offer n s) :=
  ⟨⟨linesHeld_offer n s, id, id⟩, fun _ => id⟩

theorem orderly_offerList (ns : List Notice) (s : State) : Orderly H s (offerList ns s) := by
  induction ns generalizing s with
  | nil => exact .refl s
  | cons n ns ih => exact (orderly_offer n s).trans (ih _)

theorem aside_setWinch (w : Winch) (s : State) : Aside s (setWinch w s) := ⟨linesHeld_of_eq rfl rfl rfl, id, id⟩

/-- The drive, the channels, the servos, the count of free values and the allocator are none of these. -/
theorem orderly_vehicle (n : Nat) (d : Drive) (ws : PerWheel Channel) (x : Steer) (u : Supply) (a : Alloc) (s : State) :
    Orderly H s { s with draws := n, drive := d, wheels := ws, steer := x, supply := u, alloc := a } :=
  ⟨⟨linesHeld_of_eq rfl rfl rfl, id, id⟩, fun _ => id⟩

theorem orderly_setDrive (d : Drive) (s : State) : Orderly H s (setDrive d s) :=
  orderly_vehicle s.draws d s.wheels s.steer s.supply s.alloc s

theorem orderly_setLights {x : Lights} {s : State} (h : x.base = s.lights.base) : Orderly H s (setLights x s) :=
  ⟨⟨linesHeld_of_eq rfl rfl rfl, id, fun k => lightsFit_congr k rfl h⟩, fun _ => id⟩

/-- The dispatcher's records with the slots as they are. -/
theorem orderly_setDisp {d : DispatcherState} {s : State}
    (hqueues : ∀ l, (s.disp.attention.get l).Nodup → (d.attention.get l).Nodup)
    (hwinch : d.winchOp = s.disp.winchOp := by rfl) (hlights : d.lightsOp = s.disp.lightsOp := by rfl)
    (hchassis : d.chassisOp = s.disp.chassisOp := by rfl) : Orderly H s (setDisp d s) :=
  ⟨⟨⟨rfl, fun _ => .refl _, hqueues⟩, fun k => commitFits_congr k hchassis rfl rfl, fun k => lightsFit_congr k hlights rfl⟩,
    fun _ k => winchFits_congr k hwinch rfl rfl⟩

theorem orderly_postAll (k : Attention) (s : State) : Orderly H s (postAll k s) :=
  orderly_setDisp fun l h => by
    rw [PerLink.get_map]
    exact postKind_nodup h

theorem orderly_postOthers (k : Attention) (l : Link) (s : State) : Orderly H s (postOthers k l s) :=
  orderly_setDisp fun m h => by
    rw [PerLink.get_map]
    split
    · exact h
    · exact postKind_nodup h

theorem orderly_postTo (k : Attention) (l : Link) (s : State) : Orderly H s (postTo k l s) :=
  orderly_setDisp fun m h => by
    rw [PerLink.get_set]
    split
    · next hm => exact postKind_nodup (hm ▸ h)
    · exact h

theorem orderly_writeSense (l : Link) (x : Sense) (s : State) : Orderly H s (writeSense l x s) :=
  orderly_setDisp fun _ h => h

/-- The profile store with the image state, the snapshot and L_max as they are. -/
theorem orderly_setChassis {x : Chassis} {s : State} (hstate : x.imageState = s.chassis.imageState)
    (hsnapshot : x.snapshot = s.chassis.snapshot)
    (hlimit : x.profile.get .payoutLimit = s.chassis.profile.get .payoutLimit) : Orderly H s (setChassis x s) :=
  ⟨⟨linesHeld_of_eq rfl rfl rfl, fun k => commitFits_congr k rfl hstate hsnapshot, id⟩,
    fun _ k => winchFits_congr k rfl rfl (congrArg Int.toNat hlimit)⟩

theorem orderly_markUnsaved (s : State) : Orderly H s (markUnsaved s) := orderly_setChassis rfl rfl rfl

/-! ## The drive and the tow link (R34, R42, R104) -/

theorem orderly_handHold (release : Bool) (s : State) : Orderly H s (handHold release s) :=
  (orderly_vehicle s.draws s.drive _ s.steer s.supply s.alloc s).trans (orderly_offerList _ _)

theorem orderly_haltDrive (st : DriveState) (release : Bool) (s : State) : Orderly H s (haltDrive st release s) :=
  (orderly_vehicle s.draws _ s.wheels s.steer s.supply s.alloc s).trans (orderly_handHold _ _)

theorem orderly_setTow (w : Option TowLink) (s : State) : Orderly H s (setWinch { s.winch with tow := w } s) :=
  ⟨aside_setWinch _ s, fun _ => id⟩

theorem orderly_endTow (c : TowCause) (s : State) : Orderly H s (endTow c s) := by
  unfold endTow
  split
  · exact ((orderly_setTow none s).trans (orderly_offer _ _)).trans (orderly_haltDrive _ _ _)
  · exact .refl s

theorem orderly_takeThrottle (x : Int) (s : State) : Orderly H s (takeThrottle x s) := by
  have stored : Orderly H s (setDrive (storeThrottle x s.drive) s) := orderly_setDrive _ s
  unfold takeThrottle
  dsimp only
  split
  · exact stored.trans (orderly_handHold _ _)
  · exact stored

theorem orderly_motionPeriod (m : Nat) (s : State) : Orderly H s (motionPeriod m s) := by
  unfold motionPeriod
  extract_lets p x d s1 s2
  have computed : Orderly H s s1 := orderly_vehicle s.draws d _ x s.supply s.alloc s
  have held : Orderly H s1 s2 := by
    unfold s2
    split
    · exact orderly_handHold _ _
    · exact .refl s1
  exact (computed.trans held).trans (orderly_vehicle s2.draws _ s2.wheels s2.steer s2.supply s2.alloc s2)

theorem orderly_regulatorPeriod (w : Wheel) (count : Int) (sense : Nat) (s : State) :
    Orderly H s (regulatorPeriod w count sense s).1 :=
  (orderly_vehicle _ s.drive _ s.steer s.supply s.alloc s).trans (orderly_offerList _ _)

end Sys2Proof.Machine.Order
end

section
/-! What the effects of the winch leave in order: its slot with its state, a move's target within L_max, and the load timer
of a REFERENCE behind the reference timer (R80, R83, R84, R90, R91, R93, R95, R98, R99). -/

namespace Sys2Proof.Machine.Order

open MotionGeometry WinchBlock

variable {H : Prop}

/-! ## Beside the winch -/

theorem aside_endWinchSlot (r : OpResult) (s : State) : Aside s (endOp .winch r s) where
  lines := linesHeld_endOp .winch r s
  commit h := commitFits_congr h (by rw [endOp_disp]; rfl) (by rw [endOp_chassis]) (by rw [endOp_chassis])
  lights h := lightsFit_congr h (by rw [endOp_disp]; rfl) (by rw [endOp_lights])

theorem aside_endWinchOp (r : OpResult) (s : State) : Aside s (endWinchOp r s) :=
  (aside_setWinch _ s).trans (aside_endWinchSlot r _)

theorem aside_payoutLimitStop (s : State) : Aside s (payoutLimitStop s) := by
  unfold payoutLimitStop
  split
  · exact (aside_setWinch _ s).trans (orderly_offer (H := True) _ _).toAside
  · exact .refl s

theorem aside_referenceStep (s : State) : Aside s (referenceStep s).1 := by
  unfold referenceStep
  split
  extract_lets timer start
  · split
    · exact (aside_setWinch _ s).trans (aside_endWinchOp _ _)
    · split
      · exact aside_endWinchOp _ s
      · exact aside_setWinch _ s
  · exact .refl s

theorem aside_loadStep (s : State) : Aside s (loadStep s).1 := by
  have held (w : Winch) (n : Notice) : Aside s (offer n (setWinch w s)) :=
    (aside_setWinch w s).trans (orderly_offer (H := True) n _).toAside
  by_cases ht : s.winch.loadTimed = true
  · by_cases hl : loadTimerAfter s < 100
    · rw [loadStep_of_below ht hl]
      exact aside_setWinch _ s
    · rw [loadStep_of_reached ht (Nat.not_lt.mp hl)]
      dsimp only
      split
      · exact (held _ _).trans (aside_endWinchSlot _ _)
      · exact held _ _
  · rw [loadStep_of_untimed ht]
    exact aside_setWinch _ s

/-! ## A winch that comes to rest (R83) -/

theorem winchRests_endWinchOp (r : OpResult) (s : State) : WinchRests (endWinchOp r s) where
  slot := by rw [endWinchOp_disp]
  kind := by rw [endWinchOp_winch]; rfl
  target := by rw [endWinchOp_winch]; rfl
  direction := by rw [endWinchOp_winch]; rfl

theorem orderly_endWinchOp (r : OpResult) (s : State) : Orderly H s (endWinchOp r s) :=
  ⟨aside_endWinchOp r s, fun _ _ => winchFits_of_rests (winchRests_endWinchOp r s)⟩

/-- A winch replaced while it rests, by one without an operation or a move. -/
theorem orderly_setRested {w : Winch} {s : State} (h : winchFits s → WinchRests s) (hkind : winchKind w.state = none)
    (htarget : w.moveTarget = none ∨ w.moveTarget = s.winch.moveTarget)
    (hdir : w.moveDir = none ∨ w.moveDir = s.winch.moveDir) : Orderly H s (setWinch w s) := by
  refine ⟨aside_setWinch w s, fun _ k => winchFits_of_rests ?_⟩
  obtain ⟨hslot, -, hnoTarget, hnoDir⟩ := h k
  exact ⟨hslot, hkind, htarget.elim id fun e => e.trans hnoTarget, hdir.elim id fun e => e.trans hnoDir⟩

theorem winchRests_of_state {s : State} {st : WinchState} (h : s.winch.state = st)
    (hkind : winchKind st = none := by rfl) (k : winchFits s) : WinchRests s :=
  winchRests_of_kind k (h ▸ hkind)

theorem orderly_winchStopAction (s : State) : Orderly H s (winchStopAction s) := by
  cases h : s.winch.state with
  | move | reference =>
    simp only [winchStopAction, h]
    exact orderly_endWinchOp _ s
  | runIn | runOut | loadHold | idle | free =>
    simp only [winchStopAction, h]
    exact orderly_setRested (winchRests_of_state h) rfl (.inl rfl) (.inl rfl)

theorem orderly_winchCutoffEntry (s : State) : Orderly H s (winchCutoffEntry s) := by
  cases h : s.winch.state with
  | move | reference =>
    simp only [winchCutoffEntry, h]
    exact orderly_endWinchOp _ s
  | runIn | runOut =>
    simp only [winchCutoffEntry, h]
    exact orderly_setRested (winchRests_of_state h) rfl (.inl rfl) (.inl rfl)
  | idle | loadHold | free =>
    simp only [winchCutoffEntry, h]
    exact .refl s

/-! ## The payout limit and the end of a MOVE (R84, R90, R91) -/

/-- A MOVE in order has its target and direction, an outward one within L_max. -/
theorem move_parts {s : State} (h : winchFits s) (hs : s.winch.state = .move) :
    ∃ target d, s.winch.moveTarget = some target ∧ s.winch.moveDir = some d ∧
      (d = .outward → target ≤ s.chassis.profile.nat .payoutLimit) := by
  obtain ⟨-, htarget, hdir, hlimit, -⟩ := h
  rw [hs, decide_eq_true rfl] at htarget hdir
  obtain ⟨target, htarget⟩ := Option.isSome_iff_exists.mp htarget
  obtain ⟨d, hdir⟩ := Option.isSome_iff_exists.mp hdir
  exact ⟨target, d, htarget, hdir, fun hd => hlimit (hd ▸ hdir) target htarget⟩

theorem orderly_moveEndCheck (s : State) : Orderly H s (moveEndCheck s) := by
  unfold moveEndCheck
  split
  · exact orderly_endWinchOp _ s
  · exact .refl s

theorem orderly_payoutLimitStop {s : State} (h : winchFits s → WinchRests s) : Orderly H s (payoutLimitStop s) := by
  unfold payoutLimitStop
  split
  · exact (orderly_setRested h rfl (.inl rfl) (.inl rfl)).trans (orderly_offer _ _)
  · exact .refl s

theorem aside_payoutChecks (s : State) : Aside s (payoutChecks s) := by
  by_cases hm : s.winch.state = .move
  · have checked : Aside s (moveEndCheck s) := (orderly_moveEndCheck (H := True) s).toAside
    rw [payoutChecks_of_move hm]
    split
    · exact checked.trans (aside_payoutLimitStop _)
    · exact checked
  · by_cases hr : s.winch.state = .runOut
    · rw [payoutChecks_of_runOut hr]
      exact aside_payoutLimitStop s
    · rw [payoutChecks_of_other hm hr]
      exact .refl s

/-- The checks of the payout: the outward stop of a MOVE, which would leave its slot filled, cannot come about, as its
target does not exceed L_max and is reached first (R84, R91; log entry 32). -/
theorem winchFits_payoutChecks {s : State} (hp : profileFits s.chassis.profile = true) (h : winchFits s) :
    winchFits (payoutChecks s) := by
  by_cases hm : s.winch.state = .move
  · by_cases hreached : moveReached s = true
    · rw [payoutChecks_of_reached hm hreached]
      exact winchFits_of_rests (winchRests_endWinchOp _ s)
    · obtain ⟨target, d, htarget, hdir, hlimit⟩ := move_parts h hm
      have within : d = .outward → (target : Int) ≤ s.chassis.profile.get .payoutLimit := fun hd => by
        have hle := hlimit hd
        rw [← payoutLimit_natCast hp]
        exact_mod_cast hle
      rwa [payoutChecks_of_short hm htarget hdir within hreached]
  · by_cases hr : s.winch.state = .runOut
    · rw [payoutChecks_of_runOut hr]
      exact (orderly_payoutLimitStop (H := True) (winchRests_of_state hr)).winch trivial h
    · rwa [payoutChecks_of_other hm hr]

theorem orderly_payoutChecks {s : State} (hp : H → profileFits s.chassis.profile = true) :
    Orderly H s (payoutChecks s) :=
  ⟨aside_payoutChecks s, fun hh => winchFits_payoutChecks (hp hh)⟩

theorem orderly_drumCount (dir : LineDir) {s : State} (hp : H → profileFits s.chassis.profile = true) :
    Orderly H s (drumCount dir s) := by
  have counted : Orderly H s (setWinch { s.winch with count := countAfter dir s.winch.count } s) :=
    ⟨aside_setWinch _ s, fun _ => id⟩
  exact counted.trans (orderly_payoutChecks hp)

/-! ## A write of L_max or cp100 (R84, R90, R91, R100) -/

/-- The winch in order, but for an outward target that a write of L_max has left above it. -/
structure WinchWritten (s : State) : Prop where
  slot : s.disp.winchOp.map LongOp.kind = winchKind s.winch.state
  target : s.winch.moveTarget.isSome = decide (s.winch.state = .move)
  direction : s.winch.moveDir.isSome = decide (s.winch.state = .move)
  timers : s.winch.state = .reference → s.winch.loadTimer ≤ s.winch.refTimer ∧ s.winch.refTimer < 50

theorem winchWritten_of_fits {s t : State} (h : winchFits s) (hop : t.disp.winchOp = s.disp.winchOp)
    (hwinch : t.winch = s.winch) : WinchWritten t := by
  obtain ⟨hslot, htarget, hdir, -, htimers⟩ := h
  exact ⟨by rwa [hop, hwinch], by rwa [hwinch], by rwa [hwinch], by rwa [hwinch]⟩

theorem aside_winchWriteChecks (s : State) : Aside s (winchWriteChecks s) := by
  unfold winchWriteChecks
  dsimp only
  split
  · exact (aside_setWinch _ s).trans (aside_payoutChecks _)
  · exact aside_payoutChecks s

/-- The write's clamp brings an outward target back within L_max, and the checks follow. -/
theorem winchFits_winchWriteChecks {s : State} (hp : profileFits s.chassis.profile = true) (h : WinchWritten s) :
    winchFits (winchWriteChecks s) := by
  obtain ⟨hslot, htarget, hdir, htimers⟩ := h
  unfold winchWriteChecks
  dsimp only
  refine winchFits_payoutChecks ?_ ?_
  · split <;> exact hp
  · split
    · next hout =>
      refine ⟨hslot, Option.isSome_map.trans htarget, hdir, fun _ t ht => ?_, fun href => ?_⟩
      · obtain ⟨u, -, hu⟩ := Option.map_eq_some_iff.mp ht
        exact hu ▸ min_le_right u _
      · exact htimers href
    · next hout =>
      refine ⟨hslot, htarget, hdir, fun hd => absurd ⟨?_, hd⟩ hout, htimers⟩
      rw [hd] at hdir
      simpa using hdir

/-! ## The winch period (R81, R93, R95) -/

/-- Step 4 outside REFERENCE: the entry to LOAD_HOLD ends an inward MOVE. -/
theorem winchFits_loadStep {s : State} (h : winchFits s) (href : s.winch.state ≠ .reference) :
    winchFits (loadStep s).1 := by
  have timed (n : Nat) : winchFits (setWinch { s.winch with loadTimer := n } s) := by
    obtain ⟨hslot, htarget, hdir, hlimit, -⟩ := h
    exact ⟨hslot, htarget, hdir, hlimit, fun hr => absurd hr href⟩
  by_cases ht : s.winch.loadTimed = true
  · by_cases hl : loadTimerAfter s < 100
    · rw [loadStep_of_below ht hl]
      exact timed _
    · rw [loadStep_of_reached ht (Nat.not_lt.mp hl)]
      refine winchFits_of_rests ?_
      split
      · exact ⟨by rw [endOp_disp]; rfl, by rw [endOp_winch]; rfl, by rw [endOp_winch]; rfl, by rw [endOp_winch]; rfl⟩
      · next hm =>
        have hrun : s.winch.state = .runIn := by
          rcases (loadTimed_iff s.winch).mp ht with h | h | ⟨h, -⟩
          · exact h
          · exact absurd h href
          · exact absurd h hm
        exact ⟨(winchRests_of_state hrun rfl h).slot, rfl, rfl, rfl⟩
  · rw [loadStep_of_untimed ht]
    exact timed 0

/-- In REFERENCE the load timer runs only where the reference timer does, as I_ref does not exceed I_load, so it stays
behind it (R93, R95, R178). -/
theorem loadTimerAfter_le_detectionTimer {s : State} (hp : profileFits s.chassis.profile = true)
    (h : s.winch.loadTimer ≤ s.winch.refTimer) : loadTimerAfter s ≤ detectionTimer s := by
  have hcurrents : s.chassis.profile.nat .referenceCurrent ≤ s.chassis.profile.nat .loadCurrent := by
    obtain ⟨-, -, -, hordered, -⟩ := (profileFits_iff _).mp hp
    exact Int.toNat_le_toNat (of_decide_eq_true hordered)
  unfold loadTimerAfter detectionTimer
  split <;> split <;> omega

/-- Steps 3 and 4 in a REFERENCE that goes on: both timers below the 50 ms of the reference point. -/
theorem winchFits_referenceRuns {s : State} (hp : profileFits s.chassis.profile = true) (h : winchFits s)
    (hs : s.winch.state = .reference) (hd : detectionTimer s < 50) :
    winchFits (loadStep (setWinch { s.winch with refTimer := detectionTimer s } s)).1 := by
  obtain ⟨hslot, htarget, hdir, hlimit, htimers⟩ := h
  have behind := loadTimerAfter_le_detectionTimer hp (htimers hs).1
  have timed : (setWinch { s.winch with refTimer := detectionTimer s } s).winch.loadTimed = true := by
    simp [loadTimed_iff, hs]
  have below : loadTimerAfter (setWinch { s.winch with refTimer := detectionTimer s } s) < 100 := by
    show loadTimerAfter s < 100
    omega
  rw [loadStep_of_below timed below]
  exact ⟨hslot, htarget, hdir, hlimit, fun _ => ⟨behind, hd⟩⟩

theorem winchFits_dutyStep {s : State} (h : winchFits s) : winchFits (dutyStep s) := h

theorem winchRests_moveEndCheck {s : State} (h : WinchRests s) : WinchRests (moveEndCheck s) := by
  rwa [moveEndCheck_of_other (state_ne_of_kind h.kind).1]

theorem winchFits_rested_loadStep {s : State} (h : WinchRests s) : winchFits (loadStep (moveEndCheck s)).1 :=
  winchFits_loadStep (winchFits_of_rests (winchRests_moveEndCheck h))
    (state_ne_of_kind (winchRests_moveEndCheck h).kind).2

theorem moveEndCheck_state_ne {s : State} (h : s.winch.state ≠ .reference) :
    (moveEndCheck s).winch.state ≠ .reference := by
  unfold moveEndCheck
  split
  · simp [Winch.toIdle]
  · exact h

/-- Steps 3 and 4 with the end check of a MOVE between them. -/
theorem winchFits_steps {s : State} (hp : profileFits s.chassis.profile = true) (h : winchFits s) :
    winchFits (loadStep (moveEndCheck (referenceStep s).1)).1 := by
  by_cases hs : s.winch.state = .reference
  · by_cases hd : detectionTimer s < 50
    · by_cases ht : ∃ op, s.disp.winchOp = some op ∧ 20000 ≤ s.now - op.start
      · obtain ⟨op, hop, hlate⟩ := ht
        rw [referenceStep_of_timeout hs hd hop hlate]
        exact winchFits_rested_loadStep (winchRests_endWinchOp _ _)
      · push Not at ht
        rw [referenceStep_of_running hs hd ht, moveEndCheck_of_other (by simp [hs])]
        exact winchFits_referenceRuns hp h hs hd
    · rw [referenceStep_of_detected hs (Nat.not_lt.mp hd)]
      exact winchFits_rested_loadStep (winchRests_endWinchOp _ _)
  · rw [referenceStep_of_other hs]
    exact winchFits_loadStep ((orderly_moveEndCheck (H := True) s).winch trivial h) (moveEndCheck_state_ne hs)

theorem orderly_winchPeriod (sense : Nat) {s : State} (hp : H → profileFits s.chassis.profile = true) :
    Orderly H s (winchPeriod sense s).1 where
  toAside := (((aside_setWinch _ s).trans (aside_referenceStep _)).trans
    (orderly_moveEndCheck (H := True) _).toAside).trans ((aside_loadStep _).trans (aside_setWinch _ _))
  winch hh h := winchFits_dutyStep (winchFits_steps (s := setWinch (winchMeasure sense s.winch) s) (hp hh) h)

/-! ## The stage (R98, R117) -/

theorem orderly_cutoffEntry (s : State) : Orderly H s (cutoffEntry s) :=
  ((orderly_winchCutoffEntry s).trans (orderly_endTow _ _)).trans (orderly_haltDrive _ _ _)

theorem orderly_setSupply (u : Supply) (s : State) : Orderly H s (setSupply u s) :=
  orderly_vehicle s.draws s.drive s.wheels s.steer u s.alloc s

theorem orderly_changeStage (new : Stage) (cause : StageCause) (s : State) : Orderly H s (changeStage new cause s) := by
  have changed (u : Supply) (n : Notice) : Orderly H s (postAll .stageChanged (offer n (setSupply u s))) :=
    ((orderly_setSupply u s).trans (orderly_offer n _)).trans (orderly_postAll _ _)
  unfold changeStage
  extract_lets prev s1 s2
  split
  · exact (changed _ _).trans (orderly_cutoffEntry _)
  · exact changed _ _

theorem orderly_downStep (s : State) : Orderly H s (downStep s).1 := by
  unfold downStep
  extract_lets x c
  split
  · split
    · exact orderly_changeStage _ _ s
    · exact orderly_setSupply _ s
  · exact orderly_setSupply _ s

theorem orderly_upStep (s : State) : Orderly H s (upStep s).1 := by
  unfold upStep
  extract_lets x
  split
  · split
    · exact orderly_changeStage _ _ s
    · exact orderly_setSupply _ s
  · exact orderly_setSupply _ s

theorem orderly_stageDecision (s : State) : Orderly H s (stageDecision s).1 := by
  unfold stageDecision
  split
  · dsimp only
    split
    · exact (orderly_setSupply _ s).trans (orderly_setSupply _ _)
    · exact (orderly_setSupply _ s).trans (orderly_changeStage _ _ _)
  · split
    · exact orderly_setSupply _ s
    all_goals
      extract_lets r q
      split
      · exact orderly_downStep s
      · exact (orderly_downStep s).trans (orderly_upStep _)

theorem orderly_supplyPeriod (x : Taps) (shunt : Int) (s : State) : Orderly H s (supplyPeriod x shunt s).1 :=
  ((orderly_setSupply _ s).trans (orderly_stageDecision _)).trans
    (orderly_vehicle _ _ _ _ _ _ _)

end Sys2Proof.Machine.Order
end

section
/-! The LIGHTS slot with the transition of the BASE record, from its staging to its end (R17, R143 to R148). -/

namespace Sys2Proof.Machine.Order

open LightEngine

variable {H : Prop}

/-- The BASE record is about an operation of this kind, and a source staged in it waits for no fade but an ended one. -/
structure BaseHolds (k : Option LongKind) (b : Base) : Prop where
  kind : k = baseKind b
  staged : b.staged.isSome = true → ∀ f, b.fade = some f → f.ended = true

theorem baseHolds_of_lightsFit {s : State} (h : lightsFit s) :
    BaseHolds (s.disp.lightsOp.map LongOp.kind) s.lights.base := ⟨h.1, h.2⟩

theorem lightsFit_of_baseHolds {s : State} {k : Option LongKind} (h : BaseHolds k s.lights.base)
    (hk : s.disp.lightsOp.map LongOp.kind = k) : lightsFit s := ⟨hk.trans h.kind, h.staged⟩

theorem baseKind_of_ended {b : Base} (h : ∀ f, b.fade = some f → f.ended = true) :
    baseKind b = b.staged.bind fun g => transitionKind g.transition := by
  have noFade : (b.fade.filter fun f => !f.ended) = none := by
    rw [Option.filter_eq_none_iff]
    intro f hf
    simp [h f hf]
  unfold baseKind
  rw [noFade]
  cases b.staged.bind fun g => transitionKind g.transition <;> rfl

theorem baseKind_of_flight {b : Base} {f : Fade} {kind : FadeKind} (hs : b.staged = none) (hf : b.fade = some f)
    (he : f.ended = false) (hk : f.kind = kind) : baseKind b = some (fadeOpKind kind) := by
  simp [baseKind, hs, hf, he, hk, Option.filter]

/-! ## The boundary (R141, R145 to R147) -/

/-- A fade of the record is in flight, with no source staged beside it. -/
def FadeInFlight (b : Base) : Prop := ∀ f, b.fade = some f → f.ended = false ∧ b.staged = none

theorem finishEnded_of_ended {x : Lights} {f : Fade} (hf : x.base.fade = some f) (he : f.ended = true) :
    (finishEnded x).base.fade = none ∧ (finishEnded x).base.staged = x.base.staged := by
  simp [finishEnded, hf, he]

theorem finishEnded_of_flight {x : Lights} (h : ∀ f, x.base.fade = some f → f.ended = false) : finishEnded x = x := by
  unfold finishEnded
  split
  · next f hf => simp [h f hf]
  · rfl

/-- Step 1, first part: an ended fade is no operation, and a staged source is then alone (R145). -/
theorem baseHolds_finishEnded {k : Option LongKind} {x : Lights} (h : BaseHolds k x.base) :
    BaseHolds k (finishEnded x).base ∧ FadeInFlight (finishEnded x).base := by
  by_cases hall : ∀ f, x.base.fade = some f → f.ended = false
  · rw [finishEnded_of_flight hall]
    refine ⟨h, fun f hf => ⟨hall f hf, ?_⟩⟩
    cases hg : x.base.staged with
    | none => rfl
    | some g =>
      have hended := h.staged (by simp [hg]) f hf
      rw [hall f hf] at hended
      cases hended
  · push Not at hall
    obtain ⟨f, hf, he⟩ := hall
    rw [ne_eq, Bool.not_eq_false] at he
    obtain ⟨hnone, hstaged⟩ := finishEnded_of_ended hf he
    refine ⟨⟨?_, fun _ f h => ?_⟩, fun f h => ?_⟩
    · have hended : ∀ f', x.base.fade = some f' → f'.ended = true := fun f' hf' => by
        rw [hf, Option.some.injEq] at hf'
        exact hf' ▸ he
      rw [h.kind, baseKind_of_ended hended, baseKind_of_ended (fun f h => by simp [hnone] at h), hstaged]
    all_goals simp [hnone] at h

/-- Step 1: a switched FADE or FILL goes on as the fade in flight, a switched CUT is over (R145). -/
theorem baseHolds_switchStaged {k : Option LongKind} {x : Lights} {g : Staged} (h : BaseHolds k x.base)
    (hf : FadeInFlight x.base) (hg : x.base.staged = some g) :
    BaseHolds k (switchStaged x g).base ∧ FadeInFlight (switchStaged x g).base := by
  have hfade : x.base.fade = none := by
    cases hfade : x.base.fade with
    | none => rfl
    | some f =>
      obtain ⟨-, hnone⟩ := hf f hfade
      rw [hg] at hnone
      cases hnone
  have hkind : k = transitionKind g.transition := by
    rw [h.kind]
    cases ht : transitionKind g.transition <;> simp [baseKind, hg, hfade, ht]
  unfold switchStaged FadeInFlight
  cases ht : g.transition with
  | cut =>
    refine ⟨⟨?_, fun h => (nomatch h)⟩, fun f h => by simp [hfade] at h⟩
    simp [hkind, ht, transitionKind, baseKind, hfade]
  | fade n =>
    refine ⟨⟨?_, fun h => (nomatch h)⟩, fun f h => ⟨Option.some.inj h ▸ rfl, rfl⟩⟩
    simp [hkind, ht, transitionKind, baseKind, fadeOpKind]
  | fill n v =>
    refine ⟨⟨?_, fun h => (nomatch h)⟩, fun f h => ⟨Option.some.inj h ▸ rfl, rfl⟩⟩
    simp [hkind, ht, transitionKind, baseKind, fadeOpKind]

theorem baseHolds_switchStep {k : Option LongKind} {x : Lights} (h : BaseHolds k x.base) :
    BaseHolds k (switchStep x).base ∧ FadeInFlight (switchStep x).base := by
  obtain ⟨hbase, hfade⟩ := baseHolds_finishEnded h
  unfold switchStep
  dsimp only
  split
  · next g hg =>
    split
    · exact ⟨hbase, hfade⟩
    · exact baseHolds_switchStaged hbase hfade hg
  · exact ⟨hbase, hfade⟩

/-- Step 2 plays sources, and moves no transition (R140). -/
theorem baseHolds_advanceBase {k : Option LongKind} {x : Lights} (h : BaseHolds k x.base) (hf : FadeInFlight x.base) :
    BaseHolds k (advanceBase x).1.base ∧ FadeInFlight (advanceBase x).1.base := by
  obtain ⟨hkind, hstaged⟩ := h
  unfold advanceBase FadeInFlight
  cases hfade : x.base.fade with
  | none =>
    refine ⟨⟨?_, fun _ f h => by simp [hfade] at h⟩, fun f h => by simp [hfade] at h⟩
    rw [hkind]
    simp [baseKind]
  | some f =>
    obtain ⟨hended, hnone⟩ := hf f hfade
    refine ⟨⟨?_, fun h => by simp [hnone] at h⟩, fun f' h => ⟨Option.some.inj h ▸ hended, hnone⟩⟩
    rw [hkind, baseKind_of_flight hnone hfade hended rfl]
    exact .symm (baseKind_of_flight (by exact hnone) rfl hended rfl)

/-- Step 3: the end of the fade is the end of the operation (R146, R147). -/
theorem baseHolds_fadeStep {k : Option LongKind} {x : Lights} (h : BaseHolds k x.base) (hf : FadeInFlight x.base) :
    BaseHolds (if (fadeStep x).2 then none else k) (fadeStep x).1.base := by
  obtain ⟨hkind, hstaged⟩ := h
  unfold fadeStep
  cases hfade : x.base.fade with
  | none => exact ⟨hkind, hstaged⟩
  | some f =>
    obtain ⟨hended, hnone⟩ := hf f hfade
    by_cases hn : f.n ≤ f.k + 1
    · simp only [if_pos hn, if_true]
      exact ⟨by simp [baseKind, hnone], fun h => by simp [hnone] at h⟩
    · simp only [if_neg hn]
      refine ⟨?_, fun h => by simp [hnone] at h⟩
      rw [hkind, baseKind_of_flight hnone hfade hended rfl]
      exact .symm (baseKind_of_flight (by exact hnone) rfl hended rfl)

theorem baseHolds_baseMoved {k : Option LongKind} {x : Lights} (h : BaseHolds k x.base) :
    BaseHolds (if (baseMoved x).2.2 then none else k) (baseMoved x).1 := by
  obtain ⟨hswitched, hfade⟩ := baseHolds_switchStep h
  obtain ⟨hplayed, hflight⟩ := baseHolds_advanceBase hswitched hfade
  exact baseHolds_fadeStep hplayed hflight

theorem lightsFit_lightBoundary {s : State} (h : lightsFit s) : lightsFit (lightBoundary s).1 := by
  have moved := baseHolds_baseMoved (baseHolds_of_lightsFit h)
  rw [← boundaryPlay_ended s.chassis.profile (lightInputs s)] at moved
  have base : (boundaryPlay s.chassis.profile (lightInputs s) s.lights).1.base = (baseMoved s.lights).1 := by
    rw [boundaryPlay_lights]
  rw [← base] at moved
  unfold lightBoundary
  dsimp only
  split
  · next he =>
    rw [if_pos he] at moved
    refine lightsFit_of_baseHolds (k := none) ?_ ?_
    · rw [endOp_lights]
      exact moved
    · rw [endOp_disp]
      rfl
  · next he =>
    rw [if_neg he] at moved
    exact lightsFit_of_baseHolds moved rfl

/-- The end of an operation of the lights is none of the other two slots. -/
theorem commitFits_endLightsOp {s : State} (r : OpResult) (h : commitFits s) : commitFits (endOp .lights r s) :=
  commitFits_congr h (by rw [endOp_disp]; rfl) (by rw [endOp_chassis]) (by rw [endOp_chassis])

theorem winchFits_endLightsOp {s : State} (r : OpResult) (h : winchFits s) : winchFits (endOp .lights r s) :=
  winchFits_congr h (by rw [endOp_disp]; rfl) (by rw [endOp_winch]) (by rw [endOp_chassis])

theorem orderly_lightBoundary (s : State) : Orderly H s (lightBoundary s).1 := by
  refine ⟨⟨?_, fun h => ?_, lightsFit_lightBoundary⟩, fun _ h => ?_⟩
  · unfold lightBoundary
    dsimp only
    split
    · exact (linesHeld_setLights _ s).trans (linesHeld_endOp .lights .good _)
    · exact linesHeld_setLights _ s
  · unfold lightBoundary
    dsimp only
    split
    · exact commitFits_endLightsOp _ h
    · exact h
  · unfold lightBoundary
    dsimp only
    split
    · exact winchFits_endLightsOp _ h
    · exact h

/-! ## SHOW PATTERN and the loss of an owner (R19, R21, R143, R144, R148) -/

theorem supersede_of_some {s : State} {op : LongOp} (h : s.disp.lightsOp = some op) :
    supersede s = setLights { (endOp .lights .cancelled s).lights with
      base := endFade (endOp .lights .cancelled s).lights.base } (endOp .lights .cancelled s) := by
  simp only [supersede, h]

theorem supersede_of_none {s : State} (h : s.disp.lightsOp = none) : supersede s = s := by
  simp only [supersede, h]

/-- After a superseding no operation is left, and no fade but an ended one. -/
theorem superseded {s : State} (h : lightsFit s) :
    (supersede s).disp.lightsOp = none ∧ ∀ f, (supersede s).lights.base.fade = some f → f.ended = true := by
  cases hop : s.disp.lightsOp with
  | some op =>
    rw [supersede_of_some hop]
    refine ⟨by rw [setLights_disp, endOp_disp]; rfl, fun f hf => ?_⟩
    obtain ⟨g, -, hg⟩ := Option.map_eq_some_iff.mp hf
    exact hg ▸ rfl
  | none =>
    rw [supersede_of_none hop]
    refine ⟨hop, fun f hf => ?_⟩
    cases he : f.ended with
    | true => rfl
    | false =>
      have hkind := h.1
      rw [hop] at hkind
      unfold baseKind at hkind
      split at hkind
      · cases hkind
      · simp [hf, he] at hkind

theorem linesHeld_supersede (s : State) : LinesHeld s (supersede s) := by
  unfold supersede
  split
  · exact (linesHeld_endOp .lights .cancelled s).trans (linesHeld_setLights _ _)
  · exact .refl s

theorem commitFits_supersede {s : State} (h : commitFits s) : commitFits (supersede s) := by
  unfold supersede
  split
  · exact commitFits_endLightsOp _ h
  · exact h

theorem winchFits_supersede {s : State} (h : winchFits s) : winchFits (supersede s) := by
  unfold supersede
  split
  · exact winchFits_endLightsOp _ h
  · exact h

/-- A source staged after the superseding, with the LIGHTS slot filled as its transition asks (R143, R144). -/
theorem orderly_staged {g : Staged} {s t : State}
    (hdisp : t.disp = (supersede s).disp.setOp .lights t.disp.lightsOp)
    (hkind : lightsFit s → t.disp.lightsOp.map LongOp.kind = transitionKind g.transition)
    (hbase : t.lights.base = { (supersede s).lights.base with staged := some g })
    (hqueue : t.pending = (supersede s).pending) (hports : t.ports = (supersede s).ports)
    (hwinch : t.winch = (supersede s).winch) (hchassis : t.chassis = (supersede s).chassis) : Orderly H s t := by
  refine ⟨⟨(linesHeld_supersede s).trans ⟨hqueue, fun l => ?_, fun l h => ?_⟩, fun h => ?_, fun h => ?_⟩, fun _ h => ?_⟩
  · rw [hports]
    exact .refl _
  · rw [hdisp]
    exact h
  · exact commitFits_congr (commitFits_supersede h) (by rw [hdisp]; rfl) (by rw [hchassis]) (by rw [hchassis])
  · obtain ⟨-, hended⟩ := superseded h
    refine lightsFit_of_baseHolds (k := transitionKind g.transition) ?_ (hkind h)
    rw [hbase]
    refine ⟨?_, fun _ f hf => hended f hf⟩
    rw [baseKind_of_ended (b := { (supersede s).lights.base with staged := some g }) hended]
    rfl
  · exact winchFits_congr (winchFits_supersede h) (by rw [hdisp]; rfl) hwinch (by rw [hchassis])

theorem baseHolds_dropTransition (b : Base) : BaseHolds none (dropTransition b) := by
  have hended : ∀ f, (dropTransition b).fade = some f → f.ended = true := fun f hf => by
    obtain ⟨g, -, hg⟩ := Option.map_eq_some_iff.mp hf
    exact hg ▸ rfl
  refine ⟨?_, fun _ => hended⟩
  rw [baseKind_of_ended hended]
  cases hs : b.staged <;> simp [dropTransition, hs, transitionKind]

theorem orderly_dropLightsOp (l : Link) (s : State) : Orderly H s (dropLightsOp l s) := by
  unfold dropLightsOp
  split
  · exact ⟨⟨linesHeld_of_eq rfl rfl rfl, id,
      fun _ => lightsFit_of_baseHolds (baseHolds_dropTransition s.lights.base) rfl⟩, fun _ => id⟩
  · exact .refl s

end Sys2Proof.Machine.Order
end

section
/-! What the silence of a link, the writes of the profile store and the resets leave in order (R21, R22, R173, R177, R180 to
R183, R185). -/

namespace Sys2Proof.Machine.Order

open MotionGeometry WinchBlock LightEngine ProfileStore

variable {H : Prop}

/-! ## The silence of a link (R22, R172, R173) -/

theorem orderly_failsafe (l : Link) (s : State) : Orderly H s (failsafe l s) := by
  unfold failsafe
  extract_lets -lift drive steer winch lights s1 s2 s3 s4 s5
  have halted : Orderly H s s1 := by
    unfold s1
    split
    · exact orderly_haltDrive _ _ s
    · exact .refl s
  have steered : Orderly H s1 s2 := by
    unfold s2
    split
    · exact orderly_vehicle s1.draws s1.drive s1.wheels _ s1.supply s1.alloc s1
    · exact .refl s1
  have stopped : Orderly H s2 s3 := by
    unfold s3
    split
    · exact orderly_winchStopAction s2
    · exact .refl s2
  have towed : Orderly H s3 s4 := by
    unfold s4
    split
    · exact orderly_endTow _ s3
    · exact .refl s3
  have closed : Orderly H s s5 := (((halted.trans steered).trans stopped).trans towed).trans (orderly_setLights rfl)
  split
  · have flagged : Orderly H s5 (setPort l { s5.ports.get l with failsafeFlag := true } s5) :=
      orderly_setPort ⟨rfl, rfl, rfl, rfl, rfl, le_rfl⟩
    exact ((closed.trans flagged).trans (orderly_postAll _ _)).trans (orderly_offer _ _)
  · exact closed

theorem orderly_goSilent (l : Link) (s : State) : Orderly H s (goSilent l s) := by
  unfold goSilent
  refine Orderly.trans (orderly_setPort ?_) (orderly_failsafe l _)
  exact ⟨rfl, rfl, rfl, rfl, rfl, le_rfl⟩

theorem orderly_silenceTimeout (l : Link) (s : State) : Orderly H s (silenceTimeout l s) := by
  unfold silenceTimeout
  split
  · exact orderly_goSilent l s
  · exact .refl s

theorem orderly_resetSilence (l : Link) (s : State) : Orderly H s (resetSilence l s) := by
  unfold resetSilence
  extract_lets -lift q timeout
  split
  · exact .refl s
  · split
    · exact orderly_setPort ⟨rfl, rfl, rfl, rfl, rfl, le_rfl⟩
    · split
      · exact orderly_setPort ⟨rfl, rfl, rfl, rfl, rfl, le_rfl⟩
      · split
        · exact orderly_goSilent l s
        · exact .refl s

/-! ## Written fields (R173, R177, R183) -/

theorem orderly_timeoutWritten (l : Link) (s : State) : Orderly H s (timeoutWritten l s) := by
  unfold timeoutWritten
  dsimp only
  split
  · exact orderly_setPort ⟨rfl, rfl, rfl, rfl, rfl, le_rfl⟩
  · exact .refl s

theorem orderly_timersRestarted (s : State) : Orderly H s (timersRestarted s) :=
  ((orderly_timeoutWritten _ s).trans (orderly_timeoutWritten _ _)).trans (orderly_timeoutWritten _ _)

theorem orderly_winchWriteChecks {s : State} (hp : H → profileFits s.chassis.profile = true) :
    Orderly H s (winchWriteChecks s) :=
  ⟨aside_winchWriteChecks s, fun hh h => winchFits_winchWriteChecks (hp hh) (winchWritten_of_fits h rfl rfl)⟩

theorem orderly_postWhenChanged (l : Link) (f : Field) (v : Int) (s : State) : Orderly H s (postWhenChanged l f v s) := by
  unfold postWhenChanged
  split
  · exact .refl s
  · exact orderly_postOthers _ l s

theorem orderly_restartWhenChanged (f : Field) (v : Int) (s : State) : Orderly H s (restartWhenChanged f v s) := by
  unfold restartWhenChanged
  split
  · exact .refl s
  · exact orderly_setLights (LightsKept.patternRewritten f s.lights).base

theorem aside_setProfile {x : Chassis} {s : State} (hstate : x.imageState = s.chassis.imageState)
    (hsnapshot : x.snapshot = s.chassis.snapshot) : Aside s (setChassis x s) :=
  ⟨linesHeld_of_eq rfl rfl rfl, fun k => commitFits_congr k rfl hstate hsnapshot, id⟩

theorem aside_storeField (f : Field) (v : Int) (s : State) : Aside s (storeField f v s) := by
  rw [SteerCommands.storeField_eq]
  exact aside_setProfile rfl rfl

/-- A field other than L_max leaves every stored target within it. -/
theorem orderly_storeField {f : Field} (v : Int) (s : State) (hf : f ≠ .payoutLimit) :
    Orderly H s (storeField f v s) := by
  rw [SteerCommands.storeField_eq]
  exact orderly_setChassis rfl rfl (Profile.get_set_other _ v (Ne.symm hf))

/-- A stored field with its effect at the write; that of L_max brings a stored target back within it (R90, R177). -/
theorem orderly_writtenField {f : Field} {v : Int} {s : State}
    (hp : H → profileFits (s.chassis.profile.set f v) = true) :
    Orderly H s (fieldWritten f (storeField f v s)) := by
  have fits : H → profileFits (storeField f v s).chassis.profile = true := fun hh => by
    rw [SteerCommands.storeField_eq]
    exact hp hh
  by_cases hf : f = .payoutLimit
  · subst hf
    refine ⟨(aside_storeField _ v s).trans (aside_winchWriteChecks _), fun hh h => ?_⟩
    refine winchFits_winchWriteChecks (fits hh) (winchWritten_of_fits h ?_ ?_) <;> rw [SteerCommands.storeField_eq]
  · refine (orderly_storeField v s hf).trans ?_
    unfold fieldWritten
    split
    · exact orderly_vehicle _ _ _ _ _ _ _
    · exact orderly_winchWriteChecks fits
    · exact absurd rfl hf
    · exact orderly_timeoutWritten _ _
    · exact .refl _

/-- A profile and a light store taken from the image, with the effects at the write that they have (R183). -/
theorem orderly_restored {s : State} (hp : H → profileFits (readImage s.chassis.image).profile = true) :
    Orderly H s (restoredEffects (postAll .profileChanged (takeLoaded (readImage s.chassis.image) s))) := by
  have posted : Aside s (postAll .profileChanged (takeLoaded (readImage s.chassis.image) s)) := by
    have loaded : Aside s (takeLoaded (readImage s.chassis.image) s) :=
      ⟨linesHeld_of_eq rfl rfl rfl, fun k => commitFits_congr k rfl rfl rfl,
        fun k => lightsFit_congr k rfl (LightsKept.restoreLights _ _ _ _ s.lights).base⟩
    exact loaded.trans (orderly_postAll (H := True) _ _).toAside
  have locked (u : State) : Orderly H u (anglesLocked u) :=
    orderly_vehicle u.draws u.drive u.wheels _ u.supply u.alloc u
  rw [restoredEffects_eq]
  refine Orderly.trans ⟨?_, fun hh h => ?_⟩ (orderly_timersRestarted _)
  · exact (posted.trans (locked _).toAside).trans (aside_winchWriteChecks _)
  · exact winchFits_winchWriteChecks (hp hh) (winchWritten_of_fits h rfl rfl)

/-! ## The commit (R180 to R182) -/

/-- The CHASSIS slot is filled exactly in WRITING. -/
theorem writing_iff_slot {s : State} (h : commitFits s) :
    s.chassis.imageState = .writing ↔ s.disp.chassisOp.isSome = true := by
  have hslot := congrArg Option.isSome h.1
  rw [Option.isSome_map] at hslot
  rw [hslot]
  split <;> simp_all

theorem orderly_commitComplete (s : State) : Orderly H s (commitComplete s) := by
  unfold commitComplete
  split
  · refine ⟨⟨(linesHeld_setChassis _ s).trans (linesHeld_endOp .chassis .good _), fun _ => ?_, fun h => ?_⟩, fun _ h => ?_⟩
    · unfold commitFits
      rw [endOp_disp, endOp_chassis]
      exact ⟨rfl, rfl⟩
    · exact lightsFit_congr h (by rw [endOp_disp]; rfl) (by rw [endOp_lights]; rfl)
    · exact winchFits_congr h (by rw [endOp_disp]; rfl) (by rw [endOp_winch]; rfl) (by rw [endOp_chassis]; rfl)
  · exact .refl s

theorem orderly_settlingEnd (s : State) : Orderly H s (settlingEnd s) := by
  unfold settlingEnd
  split
  · next h =>
    refine ⟨⟨linesHeld_of_eq rfl rfl rfl, fun k => ?_, id⟩, fun _ => id⟩
    obtain ⟨hslot, hsnapshot⟩ := k
    rw [h.1] at hslot hsnapshot
    exact ⟨hslot, hsnapshot⟩
  · exact .refl s

/-! ## LINK RESET (R21) -/

theorem orderly_releaseLink (l : Link) (s : State) : Orderly H s (releaseLink l s) := by
  have released : Orderly H s (setDisp { s.disp with holders := s.disp.holders.releaseAll l } s) :=
    orderly_setDisp fun _ h => h
  unfold releaseLink
  dsimp only
  split
  · exact released.trans (orderly_endTow _ _)
  · exact released

theorem orderly_dropWinchOp (l : Link) (s : State) : Orderly H s (dropWinchOp l s) := by
  unfold dropWinchOp
  split
  · exact ⟨⟨linesHeld_of_eq rfl rfl rfl, id, id⟩, fun _ _ => winchFits_of_rests ⟨rfl, rfl, rfl, rfl⟩⟩
  · exact .refl s

theorem orderly_disownCommit (l : Link) (s : State) : Orderly H s (disownCommit l s) := by
  unfold disownCommit
  split
  · refine ⟨⟨linesHeld_of_eq rfl rfl rfl, fun h => ?_, id⟩, fun _ => id⟩
    obtain ⟨hslot, hsnapshot⟩ := h
    exact ⟨by rw [setDisp_disp, Option.map_map]; exact hslot, hsnapshot⟩
  · exact .refl s

theorem orderly_resetRecords (l : Link) (s : State) : Orderly H s (setDisp (resetRecords l s.disp) s) :=
  orderly_setDisp fun m h => by
    simp only [resetRecords, PerLink.get_set]
    split
    · decide
    · exact h

theorem orderly_linkResetAll (l : Link) (s : State) : Orderly H s (linkResetAll l s) := by
  have dropped := (((orderly_releaseLink (H := H) l s).trans (orderly_dropWinchOp l _)).trans
    (orderly_dropLightsOp l _)).trans (orderly_disownCommit l _)
  unfold linkResetAll
  extract_lets s1 s2 s3
  have closed : Orderly H s s2 := dropped.trans (orderly_setLights rfl)
  have emptied : Orderly H s2 s3 := orderly_setPort ⟨rfl, rfl, rfl, rfl, rfl, Nat.zero_le _⟩
  exact (closed.trans emptied).trans (orderly_resetRecords l s3)

/-! ## Chassis reset (R185) -/

/-- A reset with no commit under way leaves all three units without an operation. -/
theorem orderly_chassisResetAll {s : State} (hslot : s.disp.chassisOp = none) : Orderly H s (chassisResetAll s) := by
  unfold chassisResetAll
  extract_lets -lift r _ s1
  have reset : Orderly H s s1 := by
    refine ⟨⟨⟨rfl, fun l => ?_, fun l _ => ?_⟩, fun h => ?_, fun _ => ⟨rfl, fun h => (nomatch h)⟩⟩, fun _ _ => ?_⟩
    · unfold s1
      rw [PerLink.get_map]
      exact ⟨rfl, rfl, rfl, rfl, rfl, Nat.zero_le _⟩
    · cases l <;> exact List.nodup_singleton _
    · exact commitFits_congr h hslot.symm rfl rfl
    · exact winchFits_of_rests ⟨rfl, rfl, rfl, rfl⟩
  exact ((reset.trans (orderly_resetSilence .p s1)).trans (orderly_resetSilence .w _)).trans (orderly_resetSilence .s _)

end Sys2Proof.Machine.Order
end

section
/-! Every command's execution, its answer, and every row of the table leave the ports, the attention queues and the
long-operation slots in order (R3 to R8, R16, R17, R163 to R169). -/

namespace Sys2Proof.Machine.Order

open MotionGeometry WinchBlock LightEngine ProfileStore

variable {H : Prop}

/-! ## The executions of the commands (R8) -/

/-- The state that an execution leaves, with its slot filled where it is accepted, has the property (R8, R17). -/
def Answered (l : Link) (n : CmdName) (tag : Byte) (Q : State → Prop) (e : Exec) : Prop :=
  match e with
  | .good _ t => Q t
  | .accepted k _ t => Q (fillOp l n k tag t)
  | .check _ _ => True
  | .conflict => True

theorem orderly_reserveBody (l : Link) (c : Command) (s : State) (tag : Byte) :
    Answered l .reserve tag (Orderly H s) (reserveBody l c s) := by
  have held (u : UnitId) (t : State) : Orderly H t (setHolder u (some l) t) := orderly_setDisp fun _ h => h
  unfold reserveBody
  split
  · trivial
  · split
    · trivial
    · split
      · exact held _ s
      · split
        · exact .refl s
        · split
          · exact (held _ s).trans (orderly_postTo _ _ _)
          · trivial

theorem orderly_releaseBody (l : Link) (c : Command) (s : State) (tag : Byte) :
    Answered l .release tag (Orderly H s) (releaseBody l c s) := by
  unfold releaseBody
  split
  · trivial
  · next u _ =>
    have released : Orderly H s (if s.disp.holders.get u = some l then setHolder u none s else s) := by
      split
      · exact orderly_setDisp fun _ h => h
      · exact .refl s
    show Orderly H s (if _ then _ else _)
    split
    · exact released.trans (orderly_endTow _ _)
    · exact released

theorem orderly_towAssistBody (l : Link) (c : Command) (s : State) (tag : Byte) :
    Answered l .towAssist tag (Orderly H s) (towAssistBody l c s) := by
  have created : Orderly H s (createTow l s) := ⟨⟨linesHeld_of_eq rfl rfl rfl, id, id⟩, fun _ => id⟩
  unfold towAssistBody towAssistOnBody towAssistOffBody
  split
  · split
    · exact .refl s
    · split
      · trivial
      · split
        · trivial
        · split
          · trivial
          · exact created
  · exact orderly_endTow _ s

theorem orderly_supplyClearBody (l : Link) (c : Command) (s : State) (tag : Byte) :
    Answered l .supplyClear tag (Orderly H s) (supplyClearBody l c s) := by
  unfold supplyClearBody
  split
  · split
    · exact orderly_changeStage _ _ s
    · trivial
  all_goals exact .refl s

theorem orderly_stopAllBody (l : Link) (c : Command) (s : State) (tag : Byte) :
    Answered l .stopAll tag (Orderly H s) (stopAllBody l c s) :=
  ((orderly_winchStopAction s).trans (orderly_endTow _ _)).trans (orderly_haltDrive _ _ _)

theorem slot_empty {o : Option LongOp} (h : o.isSome = false) : o = none :=
  Option.isNone_iff_eq_none.mp (Option.isSome_eq_false_iff.mp h)

/-- Past the busy step no operation is in the WINCH slot, so the winch rests. -/
theorem orderly_winchRunBody {l : Link} {c : Command} {s : State} (hslot : s.disp.winchOp = none) (tag : Byte) :
    Answered l .winchRun tag (Orderly H s) (winchRunBody l c s) := by
  unfold winchRunBody
  dsimp only
  split
  · trivial
  · split
    · trivial
    · have rests := fun h => winchRests_of_slot (s := s) h hslot
      show Orderly H s (setWinch (if _ then _ else _) s)
      split
      · exact orderly_setRested rests rfl (.inr rfl) (.inr rfl)
      · unfold enterRun
        split
        · exact orderly_setRested rests rfl (.inr rfl) (.inr rfl)
        · exact orderly_setRested rests rfl (.inr rfl) (.inr rfl)

theorem orderly_winchFreeBody {l : Link} {c : Command} {s : State} (hslot : s.disp.winchOp = none) (tag : Byte) :
    Answered l .winchFree tag (Orderly H s) (winchFreeBody l c s) := by
  have rests := fun h => winchRests_of_slot (s := s) h hslot
  show Orderly H s (setWinch (if _ then winchFreeOn s.winch else winchFreeOff s.winch) s)
  unfold winchFreeOn winchFreeOff
  split
  · split
    · exact ⟨aside_setWinch _ s, fun _ => id⟩
    · exact orderly_setRested rests rfl (.inr rfl) (.inr rfl)
  · split
    · exact orderly_setRested rests rfl (.inr rfl) (.inr rfl)
    · exact ⟨aside_setWinch _ s, fun _ => id⟩

/-- A winch operation started: the winch replaced and its slot filled with the kind that the new state runs. -/
theorem orderly_winchStarted {l : Link} {k : LongKind} {tag : Byte} {w : Winch} {s : State} {n : CmdName}
    (hn : n.row.target = some .winch)
    (hfits : winchFits s → winchFits (setDisp (s.disp.setOp .winch (some ⟨k, some l, tag, s.now⟩)) (setWinch w s))) :
    Orderly H s (fillOp l n k tag (setWinch w s)) := by
  have filled : fillOp l n k tag (setWinch w s) =
      setDisp (s.disp.setOp .winch (some ⟨k, some l, tag, s.now⟩)) (setWinch w s) := by
    simp only [fillOp, hn]
    rfl
  rw [filled]
  exact ⟨⟨linesHeld_of_eq rfl rfl rfl, id, id⟩, fun _ => hfits⟩

theorem orderly_winchToLengthBody (l : Link) (c : Command) (s : State) (tag : Byte) :
    Answered l .winchToLength tag (Orderly H s) (winchToLengthBody l c s) := by
  unfold winchToLengthBody
  dsimp only
  split
  · trivial
  · split
    · trivial
    · split
      · trivial
      · refine orderly_winchStarted rfl fun _ => ⟨rfl, rfl, rfl, fun _ t ht => ?_, fun h => (nomatch h)⟩
        exact Option.some.inj ht ▸ min_le_right _ _

theorem orderly_winchReferenceBody {l : Link} {c : Command} {s : State} (hslot : s.disp.winchOp = none) (tag : Byte) :
    Answered l .winchReference tag (Orderly H s) (winchReferenceBody l c s) := by
  unfold winchReferenceBody
  split
  · trivial
  · split
    · trivial
    · refine orderly_winchStarted rfl fun h => ?_
      obtain ⟨-, -, htarget, hdir⟩ := winchRests_of_slot h hslot
      refine ⟨rfl, by simp [htarget], by simp [hdir], ?_, fun _ => ⟨le_rfl, Nat.zero_lt_succ 49⟩⟩
      simp [hdir]

/-- Past the busy step the image is not being written, and the acceptance starts the write (R181). -/
theorem orderly_profileCommitBody (l : Link) (c : Command) (s : State) (tag : Byte) :
    Answered l .profileCommit tag (Orderly H s) (profileCommitBody l c s) := by
  unfold profileCommitBody
  split
  · trivial
  · exact ⟨⟨linesHeld_of_eq rfl rfl rfl, fun _ => ⟨rfl, rfl⟩, id⟩, fun _ => id⟩

theorem orderly_showPatternBody (l : Link) (c : Command) (s : State) (tag : Byte) :
    Answered l .showPattern tag (Orderly H s) (showPatternBody l c s) := by
  unfold showPatternBody
  dsimp only
  split
  · split
    · next hcut =>
      exact orderly_staged rfl (fun h => by rw [hcut]; exact congrArg _ (superseded h).1) rfl rfl rfl rfl rfl
    · next n hfade => exact orderly_staged rfl (fun _ => by rw [hfade]; rfl) rfl rfl rfl rfl rfl
    · next n v hfill => exact orderly_staged rfl (fun _ => by rw [hfill]; rfl) rfl rfl rfl rfl rfl
  · trivial

theorem orderly_profileWriteBody (l : Link) (c : Command) {s : State} (hp : H → profileFits s.chassis.profile = true)
    (tag : Byte) : Answered l .profileWrite tag (Orderly H s) (profileWriteBody l c s) := by
  unfold profileWriteBody
  split
  · trivial
  · next f _ =>
    dsimp only
    split
    · next ho =>
      refine ((orderly_postWhenChanged l f _ s).trans (orderly_restartWhenChanged f _ _)).trans
        (orderly_writtenField fun hh => ?_)
      rw [restartWhenChanged_chassis, postWhenChanged_chassis]
      exact profileFits_set (hp hh) (clampField_fits f _) ho
    · trivial

/-- Every command's execution, past the busy step (R7, R8). -/
theorem orderly_runBody {n : CmdName} {l : Link} {c : Command} {s : State} (hp : H → storeFits s)
    (hb : busy n c s = false) (tag : Byte) : Answered l n tag (Orderly H s) (runBody n l c s) := by
  cases n with
  | identify | reportDrive | reportSteer | reportWinch | reportSupply => exact .refl s
  | profileRead =>
    simp only [runBody, profileReadBody]
    split
    · trivial
    · exact .refl s
  | reportLights =>
    simp only [runBody, reportLightsBody]
    split
    · exact .refl s
    · exact .refl s
    · exact .refl s
    · split
      · trivial
      · exact .refl s
    · split
      · trivial
      · exact .refl s
  | profileWrite => exact orderly_profileWriteBody l c (fun hh => (hp hh).1) tag
  | profileCommit => exact orderly_profileCommitBody l c s tag
  | profileRestore =>
    simp only [runBody, profileRestoreBody]
    split
    · trivial
    · exact orderly_restored fun hh => readImage_profile_fits (hp hh).2.2
  | chassisReset =>
    simp only [runBody, chassisResetBody]
    split
    · trivial
    · exact orderly_chassisResetAll (slot_empty hb)
  | linkReset => exact orderly_linkResetAll l s
  | reserve => exact orderly_reserveBody l c s tag
  | release => exact orderly_releaseBody l c s tag
  | reportSense => exact orderly_writeSense l _ s
  | setNotices => exact orderly_setPort ⟨rfl, rfl, rfl, rfl, rfl, le_rfl⟩
  | driveSet =>
    simp only [runBody, driveSetBody]
    split
    · trivial
    · exact orderly_takeThrottle _ s
  | driveHold => exact (orderly_endTow _ s).trans (orderly_haltDrive _ _ _)
  | steerSet | steerMode => exact orderly_vehicle s.draws s.drive s.wheels _ s.supply s.alloc s
  | steerTrim =>
    refine orderly_storeField _ s ?_
    unfold trimField
    split <;> simp
  | winchRun => exact orderly_winchRunBody (slot_empty hb) tag
  | winchStop => exact orderly_endWinchOp _ s
  | winchToLength => exact orderly_winchToLengthBody l c s tag
  | winchReference =>
    exact orderly_winchReferenceBody (c := c) (slot_empty hb) tag
  | winchFree => exact orderly_winchFreeBody (slot_empty hb) tag
  | towAssist => exact orderly_towAssistBody l c s tag
  | lightWrite =>
    simp only [runBody, lightWriteBody]
    split
    · trivial
    · exact Orderly.trans (orderly_setLights (by rfl)) (orderly_markUnsaved _)
  | lightDefine =>
    simp only [runBody, lightDefineBody]
    split
    · trivial
    · split
      · trivial
      · exact Orderly.trans (orderly_setLights (by rfl)) (orderly_markUnsaved _)
  | showPattern => exact orderly_showPatternBody l c s tag
  | overlaySet =>
    simp only [runBody, overlaySetBody]
    split
    · trivial
    · exact orderly_setLights rfl
  | lightAuto =>
    refine orderly_setLights ?_
    split
    · exact (LightsKept.toAuto s.lights).base
    · exact (LightsKept.toManual s.lights).base
  | supplyClear => exact orderly_supplyClearBody l c s tag
  | stopAll => exact orderly_stopAllBody l c s tag

end Sys2Proof.Machine.Order
end

section
/-! Every row of the table, from its effect to the start of the frames it made ready, keeps the ports, the attention queues
and the long-operation slots in order (R16, R17, R161, R163, R164, R167 to R169). -/

namespace Sys2Proof.Machine.Order

open MotionGeometry LinksAndFrames

/-! ## A port within an event -/

/-- A port within an event: its conditions, but for the notices that wait to join the queue (R169). -/
structure PortOpen (q : Port) : Prop where
  slot : slotAccounted q = true
  notices : q.notices.length ≤ 8
  assembly : assemblyFits q = true

theorem portOpen_of_fits {q : Port} (h : portFits q = true) : PortOpen q := by
  simp only [portFits, noticesBounded, Bool.and_eq_true, decide_eq_true_eq] at h
  exact ⟨h.1.1, h.1.2.1, h.2⟩

theorem slotAccounted_congr {q r : Port} (hslot : r.slot = q.slot) (hstatus : r.status = q.status) (htx : r.tx = q.tx) :
    slotAccounted r = slotAccounted q := by
  simp only [slotAccounted, sendingStatus, hslot, hstatus, htx]

theorem assemblyFits_congr {q r : Port} (hassembly : r.assembly = q.assembly) (hbuffer : r.buffer = q.buffer) :
    assemblyFits r = assemblyFits q := by
  simp only [assemblyFits, hassembly, hbuffer]

theorem PortOpen.held {q r : Port} (h : PortOpen q) (k : PortHeld q r) : PortOpen r where
  slot := (slotAccounted_congr k.slot k.status k.tx).trans h.slot
  notices := k.notices.trans h.notices
  assembly := (assemblyFits_congr k.assembly k.buffer).trans h.assembly

/-- A slot in order is empty exactly when no status of it waits or is sent. -/
theorem slotAccounted_iff (q : Port) : slotAccounted q = true ↔
    (q.slot.isSome = true ↔ q.status.isSome = true ∨ sendingStatus q = true) ∧
      ¬(q.status.isSome = true ∧ sendingStatus q = true) := by
  simp only [slotAccounted, Bool.and_eq_true, beq_iff_eq, Bool.not_eq_true', Bool.and_eq_false_iff]
  cases q.slot.isSome <;> cases q.status.isSome <;> cases sendingStatus q <;> simp

/-! ## The transmit arbiter (R167, R168) -/

theorem portOpen_status {q : Port} {tx : TxFrame} (h : PortOpen q) (htx : q.tx = none)
    (hstatus : q.status.isSome = true) (hsent : tx.isStatus = true) :
    PortOpen { q with status := none, framesLost := false, noticesLost := false, tx := some tx } := by
  obtain ⟨hslot, hnotices, hassembly⟩ := h
  refine ⟨?_, hnotices, hassembly⟩
  rw [slotAccounted_iff] at hslot ⊢
  simp_all [sendingStatus]

theorem portOpen_notice {q : Port} {n : Notice} {rest : List Notice} {bytes : List Byte} (h : PortOpen q)
    (htx : q.tx = none) (hn : q.notices = n :: rest) :
    PortOpen { q with notices := rest, tx := some ⟨false, bytes⟩ } := by
  obtain ⟨hslot, hnotices, hassembly⟩ := h
  refine ⟨?_, ?_, hassembly⟩
  · rw [slotAccounted_iff] at hslot ⊢
    simpa [sendingStatus, htx] using hslot
  · rw [hn] at hnotices
    exact (Nat.le_succ _).trans hnotices

theorem portOpen_startNext {q : Port} (h : PortOpen q) (stage : Stage) : PortOpen (q.startNext stage) := by
  rcases q.startNext_cases stage with hk | ⟨st, htx, hst, hk⟩ | ⟨n, rest, htx, -, hn, hk⟩
  · rwa [hk]
  · rw [hk]
    exact portOpen_status h htx (by simp [hst]) rfl
  · rw [hk]
    exact portOpen_notice h htx hn

theorem portOpen_arbitrate {q : Port} (h : PortOpen q) (b : Bool) (stage : Stage) : PortOpen (q.arbitrate b stage) := by
  rcases q.arbitrate_cases b stage with hk | ⟨n, rest, htx, hn, hk⟩
  · rw [hk]
    exact portOpen_startNext h stage
  · rw [hk]
    exact portOpen_notice h htx hn

theorem startNext_offered (q : Port) (stage : Stage) : (q.startNext stage).offered = q.offered := by
  rcases q.startNext_cases stage with hk | ⟨st, -, -, hk⟩ | ⟨n, rest, -, -, -, hk⟩ <;> rw [hk]

theorem arbitrate_offered (q : Port) (b : Bool) (stage : Stage) : (q.arbitrate b stage).offered = q.offered := by
  rcases q.arbitrate_cases b stage with hk | ⟨n, rest, -, -, hk⟩
  · rw [hk, startNext_offered]
  · rw [hk]

/-- The end of the event: the offered notices join the queue, and the port is in order again (R168, R169). -/
theorem portFits_endEvent {q : Port} (h : PortOpen q) (pass : Nat → Nat) (b : Bool) (stage : Stage) :
    portFits (q.endEvent pass b stage) = true := by
  have queued : PortOpen (q.queueOffered pass) := by
    obtain ⟨⟨hassembly, hbuffer, hslot, -⟩, hstatus, htx, -⟩ := q.queueOffered_kept pass
    exact ⟨(slotAccounted_congr hslot hstatus htx).trans h.slot, (q.queueOffered_fits pass h.notices).1,
      (assemblyFits_congr hassembly hbuffer).trans h.assembly⟩
  obtain ⟨hslot, hnotices, hassembly⟩ := portOpen_arbitrate queued b stage
  have joined : ((q.queueOffered pass).arbitrate b stage).offered = [] := by
    rw [arbitrate_offered]
    exact (q.queueOffered_fits pass h.notices).2
  simp [portFits, noticesBounded, Port.endEvent, hslot, hnotices, hassembly, joined]

/-- The end of a sent frame: a sent status empties the slot (R164, R168). -/
theorem portOpen_frameEnd {q : Port} (h : PortOpen q) : PortOpen q.frameEnd := by
  obtain ⟨hslot, hnotices, hassembly⟩ := h
  unfold Port.frameEnd
  split
  · next f hf =>
    refine ⟨?_, hnotices, hassembly⟩
    rw [slotAccounted_iff] at hslot ⊢
    cases hs : f.isStatus <;> simp_all [sendingStatus]
  · exact ⟨hslot, hnotices, hassembly⟩

/-! ## Reception (R160, R161) -/

theorem portOpen_assembling {q : Port} {a : Assembly} {buffer : List Byte} (h : PortOpen q)
    (hfits : assemblyFits (assembling a buffer q) = true) : PortOpen (assembling a buffer q) :=
  ⟨h.slot, h.notices, hfits⟩

/-- A byte leaves the buffer what the assembly state says, by the table of R161. -/
theorem portOpen_assemble {q : Port} (h : PortOpen q) (b : Byte) : PortOpen (q.assemble b).1 := by
  have fits := h.assembly
  cases ha : q.assembly with
  | hunt =>
    rw [assemble_hunt ha]
    dsimp only
    split
    · exact portOpen_assembling h rfl
    · exact h
  | length =>
    rw [assemble_length ha]
    dsimp only
    split
    · next hb =>
      refine portOpen_assembling h ?_
      simpa [assemblyFits, announced, byteAt] using ⟨⟨hb.1, hb.2⟩, by omega⟩
    · split
      · exact h
      · exact portOpen_assembling h rfl
  | body =>
    rw [assemble_body ha]
    refine portOpen_assembling h ?_
    simp only [assemblyFits, ha, Bool.and_eq_true, decide_eq_true_eq] at fits
    obtain ⟨⟨⟨hlow, hhigh⟩, hone⟩, hlen⟩ := fits
    have hne : q.buffer ≠ [] := List.ne_nil_of_length_pos hone
    have hn : announced (q.buffer ++ [b]) = announced q.buffer := announced_append hne [b]
    by_cases hfull : announced (q.buffer ++ [b]) + 1 ≤ (q.buffer ++ [b]).length
    · simp only [bodyPhase_of_full hfull, assemblyFits, assembling_assembly, assembling_buffer, Bool.and_eq_true,
        decide_eq_true_eq]
      simp only [List.length_append, List.length_singleton] at hfull ⊢
      rw [hn] at hfull ⊢
      exact ⟨⟨⟨hlow, hhigh⟩, by omega⟩, by omega⟩
    · have hshort : (q.buffer ++ [b]).length ≤ announced (q.buffer ++ [b]) := by omega
      simp only [bodyPhase_of_short hshort, assemblyFits, assembling_assembly, assembling_buffer, Bool.and_eq_true,
        decide_eq_true_eq]
      simp only [List.length_append, List.length_singleton] at hshort ⊢
      omega
  | check =>
    simp only [assemblyFits, ha, Bool.and_eq_true, decide_eq_true_eq] at fits
    obtain ⟨⟨⟨hlow, hhigh⟩, hone⟩, hlen⟩ := fits
    have hne : q.buffer ≠ [] := List.ne_nil_of_length_pos (by omega)
    have hn : announced (q.buffer ++ [b]) = announced q.buffer := announced_append hne [b]
    by_cases hlast : announced (q.buffer ++ [b]) + 3 ≤ q.buffer.length + 1
    · rw [assemble_check_last ha hlast]
      exact portOpen_assembling h rfl
    · rw [assemble_check_partial ha (by omega)]
      refine portOpen_assembling h ?_
      simp only [assemblyFits, assembling_assembly, assembling_buffer, Bool.and_eq_true, decide_eq_true_eq,
        List.length_append, List.length_singleton, hn]
      omega

/-! ## The part within an event -/

/-- Every port within an event is in order, and so is every attention queue. -/
structure LinesOpen (s : State) : Prop where
  ports : ∀ l, PortOpen (s.ports.get l)
  attention : ∀ l, (s.disp.attention.get l).Nodup

theorem LinesOpen.held {s t : State} (h : LinesOpen s) (k : LinesHeld s t) : LinesOpen t :=
  ⟨fun l => (h.ports l).held (k.ports l), fun l => k.attention l (h.attention l)⟩

theorem linesOpen_of_fit {s : State} (h : linksFit s) : LinesOpen s :=
  ⟨fun l => portOpen_of_fits (h.1 l), h.2⟩

theorem linesOpen_setPort {l : Link} {q : Port} {s : State} (h : LinesOpen s) (hq : PortOpen q) :
    LinesOpen (setPort l q s) := by
  refine ⟨fun m => ?_, h.attention⟩
  by_cases hm : m = l
  · subst hm
    rwa [setPort_get_same]
  · rw [setPort_get_other q s hm]
    exact h.ports m

theorem linksFit_arbitrate {s : State} (h : LinesOpen s) : linksFit (arbitrate s) :=
  ⟨fun l => by rw [arbitrate_get]; exact portFits_endEvent (h.ports l) _ _ _, h.attention⟩

/-- What an event's effect keeps: the queue of waiting commands and events, and all of the conditions, the winch's where the
profile is in order. -/
structure KeptWithin (s t : State) : Prop where
  queue : t.pending = s.pending
  lines : LinesOpen s → LinesOpen t
  commit : commitFits s → commitFits t
  winch : storeFits s → winchFits s → winchFits t
  lights : lightsFit s → lightsFit t

/-- What a step keeps. -/
structure KeptByStep (s t : State) : Prop where
  links : linksFit s → linksFit t
  commit : commitFits s → commitFits t
  winch : storeFits s → winchFits s → winchFits t
  lights : lightsFit s → lightsFit t

/-- A row completes, leaves the queue alone and keeps the conditions. -/
def Completes (s : State) (o : Host.Outcome State Fault Refusal) : Prop :=
  ∃ t, o = .next t ∧ t.pending = s.pending ∧ KeptByStep s t

theorem KeptWithin.refl (s : State) : KeptWithin s s := ⟨rfl, id, id, fun _ => id, id⟩

theorem KeptByStep.refl (s : State) : KeptByStep s s := ⟨id, id, fun _ => id, id⟩

theorem KeptWithin.of_orderly {s t : State} (h : Orderly (storeFits s) s t) : KeptWithin s t :=
  ⟨h.lines.queue, fun k => k.held h.lines, h.commit, h.winch, h.lights⟩

theorem keptWithin_setPort {l : Link} {q : Port} {s : State} (h : PortOpen (s.ports.get l) → PortOpen q) :
    KeptWithin s (setPort l q s) := ⟨rfl, fun k => linesOpen_setPort k (h (k.ports l)), id, fun _ => id, id⟩

/-- What follows a replaced port within an event, the profile store being as it was. -/
theorem KeptWithin.after_setPort {l : Link} {q : Port} {s t : State} (h : KeptWithin s (setPort l q s))
    (k : KeptWithin (setPort l q s) t) : KeptWithin s t :=
  ⟨k.queue, fun a => k.lines (h.lines a), k.commit, k.winch, k.lights⟩

theorem completes_event {f : State → State} {s : State} (h : KeptWithin s (f s)) : Completes s (event f s) := by
  cases hp : s.powered with
  | true =>
    exact ⟨_, event_powered hp, h.queue, fun k => linksFit_arbitrate (h.lines (linesOpen_of_fit k)), h.commit, h.winch,
      h.lights⟩
  | false => exact ⟨s, event_unpowered hp, rfl, .refl s⟩

/-! ## A command, from its arrival to its answer (R3 to R8, R163, R164) -/

theorem orderly_markCommander {H : Prop} (l : Link) (n : CmdName) (s : State) : Orderly H s (markCommander l n s) := by
  unfold markCommander
  split
  · exact orderly_setDisp fun _ h => h
  · exact .refl s

theorem orderly_settle {H : Prop} {l : Link} {n : CmdName} {c : Command} {s : State} {e : Exec}
    (h : Answered l n c.tag (Orderly H s) e) : Orderly H s (settle l n c s e).st := by
  cases e with
  | good reply t => exact Orderly.trans h (orderly_markCommander l n t)
  | accepted k reply t => exact Orderly.trans h (orderly_markCommander l n _)
  | check r v => exact orderly_writeSense l _ s
  | conflict => exact .refl s

theorem orderly_attend {H : Prop} (l : Link) (c : Command) (k : Attention) (s : State) :
    Orderly H s (attend l c k s).st := by
  refine Orderly.trans (orderly_setDisp fun m h => ?_) (orderly_writeSense l _ _)
  rw [PerLink.get_set]
  split
  · next hm => exact (hm ▸ h).sublist (List.tail_sublist _)
  · exact h

theorem orderly_screen (l : Link) (c : Command) (s : State) : Orderly (storeFits s) s (screen l c s).st := by
  unfold screen
  split
  · exact orderly_attend l c _ s
  · split
    · exact orderly_writeSense l _ s
    · split
      · exact .refl s
      · split
        · exact .refl s
        · next hb =>
          unfold execute
          split
          · exact orderly_writeSense l _ s
          · exact orderly_settle (orderly_runBody id (Bool.eq_false_iff.mpr hb) _)

/-- A command placed in an empty slot, whose status is then placed in the empty status position (R164, R167). -/
theorem portOpen_answered {q r : Port} {c : Command} {st : StatusFrame} (h : PortOpen q) (hslot : q.slot = none)
    (hrslot : r.slot = some c) (htx : r.tx = q.tx) (hnotices : r.notices.length ≤ q.notices.length)
    (hassembly : r.assembly = q.assembly) (hbuffer : r.buffer = q.buffer) : PortOpen { r with status := some st } := by
  refine ⟨?_, hnotices.trans h.notices, (assemblyFits_congr hassembly hbuffer).trans h.assembly⟩
  have free := (slotAccounted_iff q).mp h.slot
  rw [slotAccounted_iff]
  simp_all [sendingStatus]

theorem keptWithin_answered {l : Link} {c : Command} {s : State} (hslot : (s.ports.get l).slot = none) :
    KeptWithin s (placeStatus l c.tag (screen l c (taken l c s))) := by
  have screened := orderly_screen l c (taken l c s)
  refine ⟨screened.lines.queue, fun k => ⟨fun m => ?_, fun m => screened.lines.attention m (k.attention m)⟩,
    screened.commit, screened.winch, screened.lights⟩
  rw [placeStatus_get]
  have held := screened.lines.ports m
  split
  · next hm =>
    subst hm
    rw [show (taken m c s).ports.get m = _ from setPort_get_same m _ s] at held
    exact portOpen_answered (c := c) (k.ports m) hslot held.slot held.tx held.notices held.assembly held.buffer
  · next hm =>
    rw [taken_get_other c s hm] at held
    exact (k.ports m).held held

theorem keptWithin_goodFrame (l : Link) (s : State) : KeptWithin s (goodFrame l s) :=
  keptWithin_setPort fun h => h.held ⟨rfl, rfl, rfl, rfl, rfl, le_rfl⟩

theorem keptWithin_arrive (l : Link) (c : Command) (s : State) : KeptWithin s (arrive l c s) := by
  cases hs : (s.ports.get l).slot with
  | none =>
    rw [arrive_free hs]
    exact keptWithin_answered hs
  | some x =>
    rw [arrive_full (by simp [hs])]
    refine KeptWithin.after_setPort (keptWithin_goodFrame l s) (keptWithin_setPort fun h => ?_)
    exact h.held ⟨rfl, rfl, rfl, rfl, rfl, le_rfl⟩

theorem keptWithin_receiveByte (l : Link) (b : Byte) (s : State) : KeptWithin s (receiveByte l b s) := by
  have assembled : KeptWithin s (setPort l ((s.ports.get l).assemble b).1 s) :=
    keptWithin_setPort fun h => portOpen_assemble h b
  unfold receiveByte
  dsimp only
  split
  · refine assembled.after_setPort ?_
    unfold completeFrame
    split
    · split
      · exact keptWithin_arrive l _ _
      · exact keptWithin_goodFrame l _
    · exact .refl _
  · exact assembled

theorem keptWithin_abandonFrame (l : Link) (s : State) : KeptWithin s (abandonFrame l s) :=
  keptWithin_setPort fun h => ⟨h.slot, h.notices, rfl⟩

theorem keptWithin_frameEnd (l : Link) (s : State) :
    KeptWithin s (setPort l ((s.ports.get l).frameEnd.startNext s.supply.stage) s) :=
  keptWithin_setPort fun h => portOpen_startNext (portOpen_frameEnd h) _

/-! ## Every row and every step -/

/-- A row that names an outcome of a period does what the period does, or nothing (log entry 3). -/
theorem keptWithin_eventWhen {α : Type} [DecidableEq α] (x : α) {f : State → State × List α} {s : State}
    (h : Orderly (storeFits s) s (f s).1) : KeptWithin s (eventWhen x f s) :=
  .of_orderly (eventWhen_keeps x (.refl s) h)

/-- Power-on leaves nothing of what was before in the ports, the attention queues and the slots. -/
theorem keptByStep_powerOn (s u : State) : KeptByStep s (powerOn u) where
  links _ := ⟨fun l => by cases l <;> rfl, fun l => by cases l <;> exact List.nodup_singleton _⟩
  commit _ := ⟨rfl, rfl⟩
  winch _ _ := winchFits_of_rests ⟨rfl, rfl, rfl, rfl⟩
  lights _ := ⟨rfl, fun h => (nomatch h)⟩

theorem losePower_pending (s : State) : (losePower s).pending = s.pending := by
  unfold losePower
  split <;> rfl

theorem keptByStep_losePower (s : State) : KeptByStep s (losePower s) := by
  unfold losePower
  split
  · exact ⟨id, id, fun _ => id, id⟩
  · exact ⟨id, id, fun _ => id, id⟩

theorem completes_powerOn (s : State) : Completes s (exec .powerOn s) := by
  refine ⟨_, rfl, ?_, keptByStep_powerOn s _⟩
  show (if s.powered then losePower s else s).pending = s.pending
  split
  · exact losePower_pending s
  · rfl

theorem completes_powerLoss (s : State) : Completes s (exec .powerLoss s) := by
  refine ⟨_, rfl, ?_⟩
  split
  · exact ⟨losePower_pending s, keptByStep_losePower s⟩
  · exact ⟨rfl, .refl s⟩

/-- The event rows, each by the one effect it has. -/
theorem completes_eventRow {i : Instr} (hi : instrFrame i = none) (s : State) : Completes s (exec i s) := by
  have profile : storeFits s → profileFits s.chassis.profile = true := And.left
  cases i with
  | powerOn => exact completes_powerOn s
  | powerLoss => exact completes_powerLoss s
  | frameReceived l b => exact completes_event (keptWithin_receiveByte l b s)
  | byteReceived l b broken =>
    cases broken with
    | false => exact completes_event (keptWithin_receiveByte l b s)
    | true => exact completes_event (keptWithin_abandonFrame l s)
  | frameByteTimeout l => exact completes_event (keptWithin_abandonFrame l s)
  | transmitFrameEnd l => exact completes_event (keptWithin_frameEnd l s)
  | silenceTimeout l => exact completes_event (.of_orderly (orderly_silenceTimeout l s))
  | commitWriteComplete => exact completes_event (.of_orderly (orderly_commitComplete s))
  | settlingEnd => exact completes_event (.of_orderly (orderly_settlingEnd s))
  | motionPeriod m => exact completes_event (.of_orderly (orderly_motionPeriod m s))
  | servoFrame a =>
    exact completes_event (.of_orderly (orderly_vehicle s.draws s.drive s.wheels _ s.supply s.alloc s))
  | drumCount dir => exact completes_event (.of_orderly (orderly_drumCount dir profile))
  | regulatorPeriod w n c =>
    exact completes_event (f := fun s => (regulatorPeriod w n c s).1) (.of_orderly (orderly_regulatorPeriod w n c s))
  | holdCreepExceeded w n c | holdSettleEnd w n c | stallTimeReached w n c | stallRestEnd w n c | faultRestEnd w n c
  | faultWindowClose w n c =>
    exact completes_event (keptWithin_eventWhen _ (orderly_regulatorPeriod w n c s))
  | winchPeriod c =>
    exact completes_event (f := fun s => (winchPeriod c s).1) (.of_orderly (orderly_winchPeriod c profile))
  | referenceDetected c | referenceTimeout c | loadHoldEntry c =>
    exact completes_event (keptWithin_eventWhen _ (orderly_winchPeriod c profile))
  | supplyPeriod x shunt =>
    exact completes_event (f := fun s => (supplyPeriod x shunt s).1) (.of_orderly (orderly_supplyPeriod x shunt s))
  | dwellDownReached x shunt | dwellUpReached x shunt =>
    exact completes_event (keptWithin_eventWhen _ (orderly_supplyPeriod x shunt s))
  | lightFrameBoundary =>
    exact completes_event (f := fun s => (lightBoundary s).1) (.of_orderly (orderly_lightBoundary s))
  | playbackCountdown | fadeEnd => exact completes_event (keptWithin_eventWhen _ (orderly_lightBoundary s))
  | _ => cases hi

theorem completes_exec (i : Instr) (s : State) : Completes s (exec i s) := by
  cases hi : instrFrame i with
  | some lc =>
    obtain ⟨l, c⟩ := lc
    rw [exec_of_frame hi]
    exact completes_event (keptWithin_arrive l c s)
  | none => exact completes_eventRow hi s

theorem keptByStep_tick (s : State) : KeptByStep s (tick s) := by
  unfold tick
  split
  · refine ⟨fun h => ⟨fun l => ?_, h.2⟩, id, fun _ => id, id⟩
    rw [PerLink.get_map]
    exact h.1 l
  · exact .refl s

theorem keptByStep_step {s t : State} (ht : step s = .next t) : KeptByStep s t := by
  cases hq : s.pending with
  | nil =>
    rw [step_idle hq, Host.Outcome.next.injEq] at ht
    exact ht ▸ keptByStep_tick s
  | cons i rest =>
    obtain ⟨u, hu, -, hlinks, hcommit, hwinch, hlights⟩ := completes_exec i { s with pending := rest }
    rw [step, hq] at ht
    obtain rfl := Host.Outcome.next.inj (hu.symm.trans ht)
    exact ⟨hlinks, hcommit, hwinch, hlights⟩

/-- Settles O55: within an event a port may hold offered notices and nothing else out of order, and the arbiters at the
event's end bring it back. -/
theorem everyStepKeepsTheLinksInOrder : Obligations.EveryStepKeepsTheLinksInOrder :=
  fun _ _ h ht => (keptByStep_step ht).links h

/-- Settles O59: each effect that moves a unit's operation moves its slot with it. -/
theorem everyStepKeepsTheOperations : Obligations.EveryStepKeepsTheOperations :=
  ⟨fun _ _ h ht => (keptByStep_step ht).commit h, fun _ _ hs h ht => (keptByStep_step ht).winch hs h,
    fun _ _ h ht => (keptByStep_step ht).lights h⟩

end Sys2Proof.Machine.Order
end

section
/-! A row of the table in the part: the step, the part without power, and the rows that name an outcome of a period (R3, R182,
R184). -/

namespace Sys2Proof.Machine.Order

/-- Settles O1: a queue with a command at its front is not the idle one. -/
theorem stepRunsTheFrontCommand : Obligations.StepRunsTheFrontCommand := by
  intro i rest s h
  rw [step, h]

/-- A part without power takes no event but power-on (log entry 2). -/
theorem exec_unpowered {i : Instr} {s : State} (hp : s.powered = false) (hi : i ≠ .powerOn) : exec i s = .next s := by
  cases hf : instrFrame i with
  | some lc =>
    rw [exec_of_frame hf]
    exact event_unpowered hp
  | none =>
    cases i with
    | powerOn => exact absurd rfl hi
    | powerLoss => simp [exec, execPowerLoss, hp]
    | frameReceived | byteReceived | frameByteTimeout | transmitFrameEnd | silenceTimeout | commitWriteComplete
    | settlingEnd | motionPeriod | servoFrame | drumCount | holdCreepExceeded | holdSettleEnd | stallTimeReached
    | stallRestEnd | faultRestEnd | faultWindowClose | referenceDetected | referenceTimeout | loadHoldEntry
    | dwellDownReached | dwellUpReached | playbackCountdown | fadeEnd => exact event_unpowered hp
    | regulatorPeriod w n c => exact event_unpowered (f := fun s => (regulatorPeriod w n c s).1) hp
    | winchPeriod c => exact event_unpowered (f := fun s => (winchPeriod c s).1) hp
    | supplyPeriod x i => exact event_unpowered (f := fun s => (supplyPeriod x i s).1) hp
    | lightFrameBoundary => exact event_unpowered (f := fun s => (lightBoundary s).1) hp
    | _ => cases hf

/-- A row that names an outcome of a period is that period, or nothing but the start of a waiting frame (log entries 3
and 4). -/
theorem event_eventWhen {α : Type} [DecidableEq α] (x : α) (f : State → State × List α) (s : State) :
    event (eventWhen x f) s = event (fun s => (f s).1) s ∨ event (eventWhen x f) s = .next (arbitrate s) := by
  cases hp : s.powered with
  | false => exact .inl ((event_unpowered hp).trans (event_unpowered hp).symm)
  | true =>
    rw [event_powered hp, event_powered hp]
    unfold eventWhen
    split
    · exact .inl rfl
    · exact .inr rfl

/-- Settles O3: every effect within an event leaves the queue alone, and no row ends but in a state. -/
theorem everyCommandCompletesAndKeepsTheQueue : Obligations.EveryCommandCompletesAndKeepsTheQueue := by
  refine ⟨fun i s => ?_, fun i s hp hi => exec_unpowered hp hi, fun s => ⟨?_, ?_, ?_, ?_⟩⟩
  · obtain ⟨t, ht, hqueue, -⟩ := completes_exec i s
    exact ⟨t, ht, hqueue⟩
  · rintro w count sense i (rfl | rfl | rfl | rfl | rfl | rfl) <;>
      exact event_eventWhen _ (regulatorPeriod w count sense) s
  · rintro sense i (rfl | rfl | rfl) <;> exact event_eventWhen _ (winchPeriod sense) s
  · rintro x shunt i (rfl | rfl) <;> exact event_eventWhen _ (supplyPeriod x shunt) s
  · rintro i (rfl | rfl) <;> exact event_eventWhen _ lightBoundary s

end Sys2Proof.Machine.Order
end

section
/-! The screening of a command: attention, the command table and validity, reservation, busy and tag (R1, R2, R4 to R8,
R165). -/

namespace Sys2Proof.Machine.Screening

/-! ## Attention (R4) -/

theorem attentionDue_of_waiting {l : Link} {c : Command} {s : State} {k : Attention} {q : List Attention}
    (h : s.disp.attention.get l = k :: q) (hsense : c.code ≠ 0x12) (hstop : c.code ≠ 0x70) :
    attentionDue l c s = some k := by
  have taken : attentionExempt c = false := by
    simp only [attentionExempt, Bool.or_eq_false_iff, beq_eq_false_iff_ne]
    exact ⟨hsense, hstop⟩
  simp [attentionDue, taken, h]

theorem attentionDue_of_empty {l : Link} {c : Command} {s : State} (h : s.disp.attention.get l = []) :
    attentionDue l c s = none := by
  simp [attentionDue, h]

theorem attentionDue_of_clear {l : Link} {c : Command} {s : State}
    (h : s.disp.attention.get l = [] ∨ c.code = 0x12 ∨ c.code = 0x70) : attentionDue l c s = none := by
  rcases h with h | h | h
  · exact attentionDue_of_empty h
  all_goals
    have exempt : attentionExempt c = true := by
      rw [attentionExempt, h]
      decide
    simp [attentionDue, exempt]

/-- Settles O6: the kind at the head of the queue is the one that the attention step delivers. -/
theorem attentionDeliversTheOldestKind : Obligations.AttentionDeliversTheOldestKind := by
  intro i l c k q s hi hs hq hsense hstop
  have due := attentionDue_of_waiting hq hsense hstop
  rw [exec_taken hi hs, screen_attend (k := k) (by rw [attentionDue_taken]; exact due)]
  have tail : ((taken l c s).disp.attention.get l).tail = q := by
    rw [taken_disp, hq]
    rfl
  rw [attend, tail]
  rfl

/-! ## The command table (R1, R2, R5, R165) -/

theorem ofCode_eq_some_iff (code : Byte) (n : CmdName) :
    CmdName.ofCode code = some n ↔ code.toNat = n.row.code.toNat := by
  refine ⟨fun h => ?_, fun h => ?_⟩
  · rw [CmdName.code_of_ofCode h]
  · rw [BitVec.eq_of_toNat_eq h, CmdName.ofCode_code]

theorem reservableUnit_eq (field : Byte) : reservableUnit field = match field.toNat with
    | 0 => some .drive
    | 1 => some .steer
    | 2 => some .winch
    | 3 => some .lights
    | 5 => some .chassis
    | _ => none := by
  unfold reservableUnit
  generalize field.toNat = k
  match k with
  | 0 | 1 | 2 | 3 | 4 | 5 => rfl
  | k + 6 => simp [UnitId.number, List.find?]

/-- The unit fields that a command fits (R1). -/
def fieldsOf (n : CmdName) : List Nat :=
  match n.row.target with
  | some u => [u.number]
  | none => [0, 1, 2, 3, 5]

theorem unitFits_iff (n : CmdName) (field : Byte) : unitFits n field = true ↔ field.toNat ∈ fieldsOf n := by
  unfold unitFits fieldsOf
  cases n.row.target with
  | some u => rw [beq_iff_eq, List.mem_singleton, eq_comm]
  | none =>
    simp only [reservableUnit_eq]
    split <;> simp_all

theorem blockFits_iff (n : CmdName) (b : List Byte) :
    blockFits n b = true ↔ b.length = n.row.length ∧ enumsFit n b = true := by
  simp [blockFits]

/-- The enumerated parameters of a block hold no value above the greatest of their sets (R5). -/
def withinLimits (limits : List (Nat × Nat)) (b : List Byte) : Prop := ∀ e ∈ limits, (byteAt b e.1).toNat ≤ e.2

theorem no_limits {n : CmdName} (h : ∀ b, enumsFit n b = true) (b : List Byte) :
    enumsFit n b = true ↔ withinLimits [] b :=
  iff_of_true (h b) fun _ he => absurd he List.not_mem_nil

theorem one_limit {n : CmdName} {i k : Nat} (h : ∀ b, enumsFit n b = decide ((byteAt b i).toNat ≤ k)) (b : List Byte) :
    enumsFit n b = true ↔ withinLimits [(i, k)] b := by
  rw [h, decide_eq_true_iff, withinLimits, List.forall_mem_singleton]

theorem two_limits {n : CmdName} {i j k m : Nat}
    (h : ∀ b, enumsFit n b = (decide ((byteAt b i).toNat ≤ k) && decide ((byteAt b j).toNat ≤ m))) (b : List Byte) :
    enumsFit n b = true ↔ withinLimits [(i, k), (j, m)] b := by
  rw [h, Bool.and_eq_true, decide_eq_true_iff, decide_eq_true_iff, withinLimits, List.forall_mem_cons,
    List.forall_mem_singleton]

/-- A row of the command table, from the model's own row. -/
theorem tableRow {n : CmdName} {code : Nat} {fields : List Nat} {cls : CmdClass} {length : Nat}
    {limits : List (Nat × Nat)} (hcode : n.row.code.toNat = code) (hfields : fieldsOf n = fields)
    (hcls : n.row.cls = cls) (hlength : n.row.length = length)
    (hlimits : ∀ b, enumsFit n b = true ↔ withinLimits limits b) :
    (∀ c : Byte, CmdName.ofCode c = some n ↔ c.toNat = code) ∧
      (∀ field : Byte, unitFits n field = true ↔ field.toNat ∈ fields) ∧ n.row.cls = cls ∧
      ∀ b : List Byte, blockFits n b = true ↔ b.length = length ∧ ∀ e ∈ limits, (byteAt b e.1).toNat ≤ e.2 := by
  refine ⟨fun c => ?_, fun field => ?_, hcls, fun b => ?_⟩
  · rw [ofCode_eq_some_iff, hcode]
  · rw [unitFits_iff, hfields]
  · rw [blockFits_iff, hlength, hlimits, withinLimits]

/-! ## Validity (R5) -/

theorem validity_of_unknown {c : Command} (h : CmdName.ofCode c.code = none) : validity c = .error .unknownCommand := by
  simp [validity, h]

theorem validity_of_wrongUnit {c : Command} {n : CmdName} (hc : CmdName.ofCode c.code = some n)
    (hu : unitFits n c.unit = false) : validity c = .error .wrongUnit := by
  simp [validity, hc, hu]

theorem validity_of_badLength {c : Command} {n : CmdName} (hc : CmdName.ofCode c.code = some n)
    (hu : unitFits n c.unit = true) (hb : blockFits n c.params = false) : validity c = .error .badLength := by
  simp [validity, hc, hu, hb]

/-- A taken command that the validity step refuses, past the attention step. -/
theorem exec_of_invalid {i : Instr} {l : Link} {c : Command} {s : State} {d : IllegalDetail}
    (hi : instrFrame i = some (l, c)) (hs : slotFree l s = true)
    (ha : s.disp.attention.get l = [] ∨ c.code = 0x12 ∨ c.code = 0x70) (hv : validity c = .error d) :
    exec i s = .next (answered l c.tag .check []
      (senseWritten l (.illegal d) c.unit c.tag none (taken l c s))) := by
  have due : attentionDue l c (taken l c s) = none := attentionDue_of_clear ha
  rw [exec_taken hi hs, screen_invalid due hv]
  rfl

/-- Settles O7: each row of the table is the model's own, and the three refusals are the three errors of validity. -/
theorem validityRefusesInOrder : Obligations.ValidityRefusesInOrder := by
  refine ⟨fun n => ?_, reservableUnit_eq, fun i l c s hi hs ha => ⟨fun hc => ?_, fun n hc => ⟨fun hu => ?_, fun hu hb => ?_⟩⟩⟩
  · cases n with
    | lightDefine | showPattern => exact tableRow rfl rfl rfl rfl (two_limits fun _ => rfl)
    | reserve | setNotices | steerMode | steerTrim | winchRun | winchFree | towAssist | lightWrite | overlaySet | lightAuto
    | reportLights => exact tableRow rfl rfl rfl rfl (one_limit fun _ => rfl)
    | identify | chassisReset | profileRead | profileWrite | profileCommit | profileRestore | linkReset | release
    | reportSense | driveSet | driveHold | reportDrive | steerSet | reportSteer | winchStop | winchToLength
    | winchReference | reportWinch | reportSupply | supplyClear | stopAll =>
      exact tableRow rfl rfl rfl rfl (no_limits fun _ => rfl)
  · exact exec_of_invalid hi hs ha (validity_of_unknown hc)
  · exact exec_of_invalid hi hs ha (validity_of_wrongUnit hc hu)
  · exact exec_of_invalid hi hs ha (validity_of_badLength hc hu hb)

/-! ## Reservation, busy and tag (R6 to R8) -/

theorem heldByAnother_of_holder {l h : Link} {n : CmdName} {u : UnitId} {s : State} (hcls : n.row.cls = .mutating)
    (htarget : n.row.target = some u) (hholder : s.disp.holders.get u = some h) (hl : h ≠ l) :
    heldByAnother l n s = true := by
  simp [heldByAnother, hcls, htarget, hholder, hl]

theorem busy_iff (n : CmdName) (c : Command) (s : State) : busy n c s = true ↔
    (s.disp.winchOp.isSome = true ∧
        (n = .winchRun ∨ n = .winchToLength ∨ n = .winchReference ∨ n = .winchFree ∨
          n = .towAssist ∧ byteAt c.params 0 = 1)) ∨
      (s.disp.chassisOp.isSome = true ∧
        (n = .profileWrite ∨ n = .profileRestore ∨ n = .profileCommit ∨ n = .chassisReset ∨ n = .lightWrite ∨
          n = .lightDefine)) ∨
      (s.winch.tow.isSome = true ∧ n = .driveSet) := by
  cases n <;> simp [busy]

theorem startsLong_of {n : CmdName} {c : Command}
    (h : n = .winchToLength ∨ n = .winchReference ∨ n = .profileCommit ∨ n = .showPattern ∧ byteAt c.params 2 ≠ 0) :
    startsLong n c = true := by
  rcases h with rfl | rfl | rfl | ⟨rfl, h⟩
  · rfl
  · rfl
  · rfl
  · exact bne_iff_ne.mpr h

/-- An operation stands in one of the three slots (R17). -/
theorem unit_of_op {u : UnitId} {op : LongOp} {d : DispatcherState} (h : d.op u = some op) :
    u ∈ [UnitId.winch, .lights, .chassis] := by
  cases u with
  | winch | lights | chassis => decide
  | drive | steer | supply | all => cases h

theorem tagClash_of {l : Link} {n : CmdName} {c : Command} {u : UnitId} {op : LongOp} {s : State}
    (hstarts : startsLong n c = true) (htarget : n.row.target ≠ some u) (hop : s.disp.op u = some op)
    (howner : op.owner = some l) (htag : op.tag = c.tag) : tagClash l n c s = true := by
  simp only [tagClash, hstarts, Bool.true_and, List.any_eq_true]
  exact ⟨u, unit_of_op hop, by simp [htarget, slotTagged, hop, howner, htag]⟩

/-- Settles O8: the last three steps of the screening, each where the steps before it let the command through. -/
theorem heldBusyAndTaggedCommandsAreTurnedAway : Obligations.HeldBusyAndTaggedCommandsAreTurnedAway := by
  refine ⟨?_, ⟨busy_iff, ?_⟩, ?_⟩
  · intro i l h c n u s hi hs hq hc hu hb hcls htarget hholder hl
    have held := heldByAnother_of_holder hcls htarget hholder hl
    have due : attentionDue l c (taken l c s) = none := attentionDue_of_empty hq
    rw [exec_taken hi hs, screen_held (s := taken l c s) due (validity_ok hc hu hb) held]
    rfl
  · intro i l c n s hi hs hq hc hu hb hheld hbusy
    have due : attentionDue l c (taken l c s) = none := attentionDue_of_empty hq
    rw [exec_taken hi hs, screen_busy (s := taken l c s) due (validity_ok hc hu hb) hheld hbusy]
    rfl
  · intro i l c n u op s hi hs hq hc hu hb hheld hbusy hn htarget hop howner htag
    have clash := tagClash_of (s := s) (startsLong_of hn) htarget hop howner htag
    have due : attentionDue l c (taken l c s) = none := attentionDue_of_empty hq
    rw [exec_taken hi hs, screen_clash (s := taken l c s) due (validity_ok hc hu hb) hheld hbusy clash]
    rfl

/-! ## A unit held by another master (R6) -/

/-- The units, the reservations, the last commanders and the operations are left alone. -/
def UnitsLeft (s t : State) : Prop :=
  sameUnits s t ∧ t.disp.holders = s.disp.holders ∧ t.disp.last = s.disp.last ∧
    t.disp.winchOp = s.disp.winchOp ∧ t.disp.lightsOp = s.disp.lightsOp ∧ t.disp.chassisOp = s.disp.chassisOp

theorem unitsLeft_refl (s : State) : UnitsLeft s s :=
  ⟨⟨rfl, rfl, rfl, rfl, rfl, rfl, rfl, rfl⟩, rfl, rfl, rfl, rfl, rfl⟩

/-- The screening of a command whose unit another master holds ends before the execution. -/
theorem screen_of_held {l : Link} {c : Command} {n : CmdName} {s : State} (hc : CmdName.ofCode c.code = some n)
    (hh : heldByAnother l n s = true) : UnitsLeft s (screen l c s).st := by
  unfold screen
  split
  · exact unitsLeft_refl s
  · split
    · exact unitsLeft_refl s
    · next m hv =>
      have named : m = n := by
        unfold validity at hv
        rw [hc] at hv
        dsimp only at hv
        split at hv
        · split at hv
          · exact (Except.ok.inj hv).symm
          · cases hv
        · cases hv
      rw [named, if_pos hh]
      exact unitsLeft_refl s

theorem arrive_of_held {l : Link} {c : Command} {n : CmdName} {s : State} (hc : CmdName.ofCode c.code = some n)
    (hh : heldByAnother l n s = true) : UnitsLeft s (arrive l c s) := by
  cases hs : (s.ports.get l).slot with
  | none =>
    rw [arrive_free hs]
    exact screen_of_held (s := taken l c s) hc hh
  | some x =>
    rw [arrive_full (by simp [hs])]
    exact unitsLeft_refl s

/-- Settles O9: whether the frame is lost, the master is attended, or the reservation step is reached, the unit is not. -/
theorem heldUnitIsLeftAlone : Obligations.HeldUnitIsLeftAlone := by
  intro i l h c n u s t hi hc hcls htarget hholder hl ht
  have left := arrive_of_held hc (heldByAnother_of_holder hcls htarget hholder hl)
  rw [exec_of_frame hi] at ht
  cases hp : s.powered with
  | true =>
    rw [event_powered hp, Host.Outcome.next.injEq] at ht
    exact ht ▸ left
  | false =>
    rw [event_unpowered hp, Host.Outcome.next.injEq] at ht
    exact ht ▸ unitsLeft_refl s

end Sys2Proof.Machine.Screening
end

section
/-! The dispatcher's own commands: RESERVE, RELEASE, REPORT SENSE and SET NOTICES (R9, R10, R11, R15, R171). -/

namespace Sys2Proof.Machine.DispatcherCommands

open MotionGeometry

/-! ## RESERVE and RELEASE (R9 to R11) -/

/-- The sender's tow link is not another's (R9, R40). -/
theorem towOfAnother_iff {l : Link} {s : State} :
    towOfAnother l s = true ↔ s.winch.tow.isSome = true ∧ s.winch.tow.map TowLink.owner ≠ some l := by
  rw [towOfAnother, Bool.and_eq_true, ne_eq, ← ownsTow_iff, Bool.not_eq_true', Bool.not_eq_true]

/-- RESERVE by the rows of its table: DRIVE under another link's tow link, a free unit, the sender's own, and one that
another link holds. -/
theorem reserveBody_of_tow {l : Link} {c : Command} {x : UnitId} {s : State} (hx : reservableUnit c.unit = some x)
    (ht : x = .drive ∧ s.winch.tow.isSome = true ∧ s.winch.tow.map TowLink.owner ≠ some l) :
    reserveBody l c s = .conflict := by
  simp [reserveBody, hx, towOfAnother_iff, ht]

theorem reserveBody_of_free {l : Link} {c : Command} {x : UnitId} {s : State} (hx : reservableUnit c.unit = some x)
    (ht : ¬(x = .drive ∧ s.winch.tow.isSome = true ∧ s.winch.tow.map TowLink.owner ≠ some l))
    (hh : s.disp.holders.get x = none) : reserveBody l c s = .good [] (setHolder x (some l) s) := by
  simp only [reserveBody, hx, towOfAnother_iff, if_neg ht, hh]

theorem reserveBody_of_held {l h : Link} {c : Command} {x : UnitId} {s : State} (hx : reservableUnit c.unit = some x)
    (ht : ¬(x = .drive ∧ s.winch.tow.isSome = true ∧ s.winch.tow.map TowLink.owner ≠ some l))
    (hh : s.disp.holders.get x = some h) : reserveBody l c s =
      if h = l then .good [] s
      else if byteAt c.params 0 = 1 ∧ (s.ports.get h).link = .silent then
        .good [] (postTo .reservationLost h (setHolder x (some l) s))
      else .conflict := by
  simp only [reserveBody, hx, towOfAnother_iff, if_neg ht, hh, mayPreempt, Bool.and_eq_true, decide_eq_true_eq]

theorem releaseBody_eq {c : Command} {x : UnitId} (hx : reservableUnit c.unit = some x) (l : Link) (s : State) :
    releaseBody l c s =
      let given := if s.disp.holders.get x = some l then setHolder x none s else s
      .good [] (if x = .winch ∧ s.winch.tow.map TowLink.owner = some l then endTow .release given else given) := by
  simp only [releaseBody, hx, ownsTow_iff]

/-- Settles O17: the rows of RESERVE's table, and RELEASE with the end of the sender's tow link. -/
theorem reserveAndReleaseFollowTheirTables : Obligations.ReserveAndReleaseFollowTheirTables := by
  constructor
  · intro l t u b x s h hx r
    have hgiven : exec (.reserve l t u b) s = .next (given .reserve l t u r (reserveBody l ⟨t, u, 0x10, b⟩ r)) :=
      exec_given rfl h
    rw [hgiven]
    have own : reservableUnit (Command.unit ⟨t, u, 0x10, b⟩) = some x := hx
    by_cases ht : x = .drive ∧ s.winch.tow.isSome = true ∧ s.winch.tow.map TowLink.owner ≠ some l
    · rw [if_pos ht, reserveBody_of_tow (s := r) own ht]
      rfl
    · rw [if_neg ht]
      cases hh : s.disp.holders.get x with
      | none =>
        rw [reserveBody_of_free (s := r) own ht hh]
        rfl
      | some h =>
        have silent : h ≠ l → (r.ports.get h).link = (s.ports.get h).link := fun hl => by
          rw [show r.ports.get h = s.ports.get h from taken_get_other _ s hl]
        rw [reserveBody_of_held (s := r) own ht hh]
        by_cases hl : h = l
        · rw [if_pos hl]
          simp only [if_pos hl]
          rfl
        · simp only [if_neg hl, silent hl]
          split <;> rfl
  · intro l t u b x s h hx r freed
    have hgiven : exec (.release l t u b) s = .next (given .release l t u r (releaseBody l ⟨t, u, 0x11, b⟩ r)) :=
      exec_given rfl h
    rw [hgiven, releaseBody_eq hx]
    rfl

/-! ## REPORT SENSE and SET NOTICES (R15, R171) -/

/-- Settles O18: both commands leave what their executions give, a dispatcher command setting no last commander. -/
theorem senseAndNoticesCommands : Obligations.SenseAndNoticesCommands := by
  intro l t u b s
  constructor
  · intro h x held last
    have hgiven : exec (.reportSense l t u b) s =
        .next (given .reportSense l t u (taken l ⟨t, u, 0x12, b⟩ s)
          (reportSenseBody l ⟨t, u, 0x12, b⟩ (taken l ⟨t, u, 0x12, b⟩ s))) := exec_given rfl h
    rw [hgiven]
    rfl
  · intro h r
    have hgiven : exec (.setNotices l t u b) s =
        .next (given .setNotices l t u r (setNoticesBody l ⟨t, u, 0x13, b⟩ r)) := exec_given rfl h
    rw [hgiven]
    rfl

end Sys2Proof.Machine.DispatcherCommands
end

section
/-! The transmit arbiter, the end of a sent frame, and the bytes of a frame and of each notice (R161, R164, R167, R168, R170). -/

namespace Sys2Proof.Machine.Transmission

/-! ## The next frame (R167, R168) -/

theorem startNext_of_busy {q : Port} {f : TxFrame} (h : q.tx = some f) (stage : Stage) : q.startNext stage = q := by
  simp [Port.startNext, h]

theorem startNext_of_status {q : Port} {st : StatusFrame} (h : q.tx = none) (hs : q.status = some st) (stage : Stage) :
    q.startNext stage = { q with
      status := none
      framesLost := false
      noticesLost := false
      tx := some ⟨true, statusBytes st (statusFlags q.framesLost q.noticesLost stage)⟩ } := by
  simp [Port.startNext, h, hs]

theorem startNext_of_notice {q : Port} {n : Notice} {rest : List Notice} (h : q.tx = none) (hs : q.status = none)
    (hn : q.notices = n :: rest) (stage : Stage) :
    q.startNext stage = { q with notices := rest, tx := some ⟨false, noticeBytes n⟩ } := by
  simp [Port.startNext, h, hs, hn]

theorem startNext_of_idle {q : Port} (h : q.tx = none) (hs : q.status = none) (hn : q.notices = []) (stage : Stage) :
    q.startNext stage = q := by
  simp [Port.startNext, h, hs, hn]

/-- A status and a notice race where both wait on an idle transmitter (log entry 4). -/
theorem raced_iff (q : Port) : q.raced = true ↔ q.tx = none ∧ q.status ≠ none ∧ q.notices ≠ [] := by
  simp [Port.raced, Option.isSome_iff_ne_none, and_assoc]

theorem arbitrate_of_unraced {q : Port} (h : q.tx ≠ none ∨ q.status = none ∨ q.notices = []) (b : Bool) (stage : Stage) :
    q.arbitrate b stage = q.startNext stage := by
  have unraced : ¬q.raced = true := fun hr => by
    obtain ⟨ht, hs, hn⟩ := (raced_iff q).mp hr
    exact h.elim (· ht) (Or.elim · hs hn)
  simp [Port.arbitrate, unraced]

theorem arbitrate_of_raced {q : Port} {n : Notice} {rest : List Notice} (h : q.tx = none) (hs : q.status ≠ none)
    (hn : q.notices = n :: rest) (b : Bool) (stage : Stage) :
    q.arbitrate b stage =
      if b then { q with notices := rest, tx := some ⟨false, noticeBytes n⟩ } else q.startNext stage := by
  have raced : q.raced = true := (raced_iff q).mpr ⟨h, hs, by simp [hn]⟩
  simp [Port.arbitrate, raced, Port.startNotice, hn]

/-! ## The end of a sent frame (R164, R168) -/

theorem frameEnd_of_sent {q : Port} {f : TxFrame} (h : q.tx = some f) :
    q.frameEnd = { q with tx := none, slot := if f.isStatus then none else q.slot } := by
  simp [Port.frameEnd, h]

theorem transmitFrameEnd_next {l : Link} {f : TxFrame} {s : State} (hp : s.powered = true)
    (hf : (s.ports.get l).tx = some f) :
    exec (.transmitFrameEnd l) s = .next (arbitrate (setPort l (Port.startNext s.supply.stage { s.ports.get l with
      tx := none
      slot := if f.isStatus then none else (s.ports.get l).slot }) s)) := by
  have ended : exec (.transmitFrameEnd l) s =
      .next (arbitrate (setPort l ((s.ports.get l).frameEnd.startNext s.supply.stage) s)) :=
    event_powered (f := fun s => setPort l ((s.ports.get l).frameEnd.startNext s.supply.stage) s) hp
  rw [ended, frameEnd_of_sent hf]

/-- Settles O14: the arbiter by what waits, the frame's end, and the layouts read off their definitions notice by notice. -/
theorem transmitterSendsTheStatusFirst : Obligations.TransmitterSendsTheStatusFirst := by
  refine ⟨fun stage q => ⟨fun f h => startNext_of_busy h stage, fun h st hs => startNext_of_status h hs stage,
      fun h hs n rest hn => startNext_of_notice h hs hn stage, fun h hs hn => startNext_of_idle h hs hn stage,
      fun b h => arbitrate_of_unraced h b stage, fun b n rest h hs hn => arbitrate_of_raced h hs hn b stage, ?_⟩,
    fun l f s hp hf => transmitFrameEnd_next hp hf, fun body => rfl, ?_⟩
  · exact fun s => ⟨fun l => Config.noticeOrder l s.draws, fun l => Config.noticeFirst l s.draws, arbitrate_get s⟩
  · intro n
    cases n with
    | done u tag r => cases u <;> cases r <;> rfl
    | wheel w e v => cases w <;> cases e <;> rfl
    | winch e v => cases e <;> rfl
    | stage new previous v c => cases c <;> rfl
    | failsafe l units => cases l <;> rfl

end Sys2Proof.Machine.Transmission
end

section
/-! STOP ALL: the stop action of the winch, the end of the tow link and the halt of the drive (R20, R34, R99, R104). -/

namespace Sys2Proof.Machine.Stops

open MotionGeometry

/-! ## The stop action (R99) -/

/-- The winch that the stop action leaves: a FREE or IDLE one keeps its state and bridge, every other is in IDLE, braked. -/
def stoppedWinch (w : Winch) : Winch :=
  { w with
    state := if w.state = .free then .free else .idle
    runSpeed := 0
    moveTarget := none
    moveDir := none
    refTimer := 0
    loadTimer := 0
    bridge := if w.state = .free ∨ w.state = .idle then w.bridge else .brake }

/-- The stop action in its order: the winch, then the CANCELLED of a MOVE or REFERENCE. -/
theorem winchStopAction_eq (s : State) : winchStopAction s =
    if s.winch.state = .move ∨ s.winch.state = .reference then
      endOp .winch .cancelled { s with winch := stoppedWinch s.winch }
    else { s with winch := stoppedWinch s.winch } := by
  cases h : s.winch.state <;> simp [winchStopAction, h, stoppedWinch, Winch.toIdle, setWinch, endWinchOp]

theorem winchStopAction_portsKept (s : State) : portsKept s (winchStopAction s) := by
  rw [winchStopAction_eq]
  split
  · exact endOp_portsKept .winch .cancelled { s with winch := stoppedWinch s.winch }
  · exact .refl s

/-! ## The halt of the drive after the end of the tow link (R34, R43) -/

/-- A SAFE_HOLD without a tow link stays, every other state becomes HOLDING, with the brake timer started from DRIVING. -/
theorem stopDrive_endTow_drive {c : TowCause} (hc : c.driveState = .holding) (s : State) :
    (stopDrive (endTow c s)).drive = { s.drive with
      t := 0
      b := 0
      bCmd := 0
      state := if s.drive.state = .safeHold ∧ s.winch.tow = none then .safeHold else .holding
      brakeTimer := if s.drive.state = .driving then some 0 else s.drive.brakeTimer } := by
  rw [stopDrive_drive]
  cases hw : s.winch.tow with
  | none =>
    rw [endTow_of_none hw]
    cases hst : s.drive.state <;> simp [Drive.zeroed, DriveState.afterStop, nextBrakeTimer, hst]
  | some w =>
    rw [endTow_drive_of_some hw]
    simp [hc, DriveState.afterStop, Drive.zeroed, nextBrakeTimer]

theorem stopDrive_endTow_wheels (c : TowCause) (s : State) (w : Wheel) :
    (stopDrive (endTow c s)).wheels.get w = Channel.holdRequest false (s.wheels.get w) := by
  rw [stopDrive_wheels, PerWheel.get_map]
  cases hw : s.winch.tow with
  | none => rw [endTow_of_none hw]
  | some x => rw [endTow_wheels_of_some hw, PerWheel.get_map, Channel.holdRequest_idem]

/-! ## STOP ALL (R20) -/

/-- The part after STOP ALL, before its answer. -/
def stoppedAll (s : State) : State := stopDrive (endTow .stopAll (winchStopAction s))

theorem stoppedAll_drive (s : State) : (stoppedAll s).drive = { s.drive with
    t := 0
    b := 0
    bCmd := 0
    state := if s.drive.state = .safeHold ∧ s.winch.tow = none then .safeHold else .holding
    brakeTimer := if s.drive.state = .driving then some 0 else s.drive.brakeTimer } := by
  rw [stoppedAll, stopDrive_endTow_drive rfl, winchStopAction_winch, winchStopAction_drive]

theorem stoppedAll_wheels (s : State) (w : Wheel) :
    (stoppedAll s).wheels.get w = Channel.holdRequest false (s.wheels.get w) := by
  rw [stoppedAll, stopDrive_endTow_wheels, winchStopAction_wheels]

theorem stoppedAll_winch (s : State) : (stoppedAll s).winch = { stoppedWinch s.winch with tow := none } := by
  rw [stoppedAll, stopDrive_winch, endTow_winch, winchStopAction_winch]
  rfl

theorem stoppedAll_disp (s : State) : (stoppedAll s).disp = { s.disp with
    winchOp := if s.winch.state = .move ∨ s.winch.state = .reference then none else s.disp.winchOp } := by
  rw [stoppedAll, stopDrive_disp, endTow_disp, winchStopAction_disp]

theorem stoppedAll_portsKept (s : State) : portsKept s (stoppedAll s) :=
  ((winchStopAction_portsKept s).trans (endTow_portsKept .stopAll _)).trans (haltDrive_portsKept _ false _)

/-- STOP ALL in its order: the winch, the tow link, the drive, the hold request. -/
theorem stoppedAll_eq (s : State) :
    let stopped : State := { s with winch := { (stoppedAll s).winch with tow := s.winch.tow } }
    let s1 := if s.winch.state = .move ∨ s.winch.state = .reference then endOp .winch .cancelled stopped else stopped
    let s2 := if s.winch.tow.isSome = true then endTow .stopAll s1 else s1
    stoppedAll s = handHold false { s2 with drive := (stoppedAll s).drive } := by
  intro stopped s1 s2
  have hstopped : stopped = { s with winch := stoppedWinch s.winch } := by
    simp only [stopped, stoppedAll_winch]
    rfl
  have hs1 : s1 = winchStopAction s := by
    rw [winchStopAction_eq, ← hstopped]
  have htow : (winchStopAction s).winch.tow = s.winch.tow := by rw [winchStopAction_winch]
  have hs2 : s2 = endTow .stopAll (winchStopAction s) := by
    rw [endTow_eq_ite, htow, ← hs1]
  rw [hs2, stoppedAll, stopDrive_drive]
  rfl

theorem stopAll_answers {l : Link} {t u : Byte} {b : List Byte} {s : State} (h : admitted .stopAll l t u b s = true) :
    exec (.stopAll l t u b) s = .next (answered l t .good [] (stoppedAll (taken l ⟨t, u, 0x70, b⟩ s))) :=
  exec_given rfl h

/-- Settles O20: STOP ALL as the halt that `stoppedAll` names. -/
theorem stopAllStopsTheVehicle : Obligations.StopAllStopsTheVehicle := by
  intro l t u b s h
  refine ⟨_, stopAll_answers h, stoppedAll_drive (taken l _ s), stoppedAll_wheels (taken l _ s),
    stoppedAll_winch (taken l _ s), stoppedAll_disp (taken l _ s), ?_, ?_, ?_, ?_, ?_, ?_, fun m hm => ?_, ?_⟩
  iterate 5 · simp [answered, placeStatus, stoppedAll]
  · simp [answered, placeStatus, stoppedAll, clockKept]
  · exact (taken_portKept hm).trans ((stoppedAll_portsKept _).trans (answered_portsKept l t .good [] _) m)
  · exact congrArg (answered l t .good []) (stoppedAll_eq (taken l _ s))

end Sys2Proof.Machine.Stops
end

section
/-! The failsafe of a silent link: its actions in their order, and what they leave of each unit (R22, R39, R78, R99, R104, R172). -/

namespace Sys2Proof.Machine.Stops

open MotionGeometry

/-! ## The affected units (R22) -/

theorem answersFor_iff {l : Link} {u : UnitId} {s : State} : answersFor l u s = true ↔ affectedBy l u s := by
  unfold answersFor affectedBy
  cases h : s.disp.holders.get u <;> simp

theorem driveAffected_iff {l : Link} {s : State} :
    driveAffected l s = true ↔ affectedBy l .drive s ∧ ∀ w, s.winch.tow = some w → w.owner = l := by
  rw [driveAffected, Bool.and_eq_true, answersFor_iff]
  cases h : s.winch.tow <;> simp

/-- The owner of a tow link holds WINCH, so its silence affects it. -/
theorem affected_of_ownsTow {l : Link} {s : State} (h : towFits s) (ho : ownsTow l s = true) :
    answersFor l .winch s = true := by
  obtain ⟨w, hw, rfl⟩ := Option.map_eq_some_iff.mp (ownsTow_iff.mp ho)
  obtain ⟨-, holder, -⟩ := (towFits_some hw).mp h
  exact answersFor_iff.mpr (.inl holder)

/-- Whether any unit is affected. -/
def anyAffected (l : Link) (s : State) : Bool :=
  driveAffected l s || answersFor l .steer s || answersFor l .winch s || answersFor l .lights s

theorem anyAffected_iff {l : Link} {s : State} : anyAffected l s = true ↔
    affectedBy l .drive s ∧ (∀ w, s.winch.tow = some w → w.owner = l) ∨ affectedBy l .steer s ∨
      affectedBy l .winch s ∨ affectedBy l .lights s := by
  simp only [anyAffected, Bool.or_eq_true, driveAffected_iff, answersFor_iff, or_assoc]

/-- A second hold request to the four channels changes nothing. -/
theorem holdRequests_idem (w : PerWheel Channel) :
    (w.map (Channel.holdRequest false)).map (Channel.holdRequest false) = w.map (Channel.holdRequest false) := by
  simp [PerWheel.map, Channel.holdRequest_idem]

/-! ## The safe actions in their order -/

/-- The drive halted into SAFE_HOLD, where it is affected (R39). -/
def driveSafe (l : Link) (s : State) : State := if driveAffected l s then haltDrive .safeHold false s else s

/-- Then the steering in its safe action (R78). -/
def steeringSafe (l : Link) (s : State) : State :=
  { driveSafe l s with steer := if answersFor l .steer s then steerSafe s.chassis.profile s.steer else s.steer }

/-- Then the winch stopped (R99). -/
def winchSafe (l : Link) (s : State) : State :=
  if answersFor l .winch s then winchStopAction (steeringSafe l s) else steeringSafe l s

/-- Then the link's tow link ended (R104). -/
def towSafe (l : Link) (s : State) : State := if ownsTow l s then endTow .failsafe (winchSafe l s) else winchSafe l s

/-- Then the link's patterns closed (R22). -/
def madeSafe (l : Link) (s : State) : State := { towSafe l s with lights := closeLink l s.lights }

theorem driveSafe_vehicle (l : Link) (s : State) : (driveSafe l s).steer = s.steer ∧ (driveSafe l s).winch = s.winch ∧
    (driveSafe l s).lights = s.lights ∧ (driveSafe l s).disp = s.disp ∧ (driveSafe l s).chassis = s.chassis := by
  unfold driveSafe
  split <;> simp

theorem winchSafe_winch (l : Link) (s : State) :
    (winchSafe l s).winch = if answersFor l .winch s then stoppedWinch s.winch else s.winch := by
  obtain ⟨-, hwinch, -⟩ := driveSafe_vehicle l s
  unfold winchSafe
  split
  · rw [winchStopAction_winch]
    simp only [steeringSafe, hwinch]
    rfl
  · exact hwinch

theorem winchSafe_tow (l : Link) (s : State) : (winchSafe l s).winch.tow = s.winch.tow := by
  rw [winchSafe_winch]
  split <;> rfl

theorem winchSafe_lights (l : Link) (s : State) : (winchSafe l s).lights = s.lights := by
  obtain ⟨-, -, hlights, -⟩ := driveSafe_vehicle l s
  unfold winchSafe
  split
  · rw [winchStopAction_lights]
    exact hlights
  · exact hlights

theorem towSafe_lights (l : Link) (s : State) : (towSafe l s).lights = s.lights := by
  unfold towSafe
  split
  · rw [endTow_lights, winchSafe_lights]
  · exact winchSafe_lights l s

theorem steeringSafe_eq (l : Link) (s : State) : steeringSafe l s =
    if answersFor l .steer s then
      { driveSafe l s with steer := steerSafe (driveSafe l s).chassis.profile (driveSafe l s).steer }
    else driveSafe l s := by
  obtain ⟨hsteer, -, -, -, hchassis⟩ := driveSafe_vehicle l s
  rw [hsteer, hchassis]
  unfold steeringSafe
  split
  · rfl
  · rw [← hsteer]

theorem towSafe_eq (l : Link) (s : State) : towSafe l s =
    if ownsTow l (winchSafe l s) then endTow .failsafe (winchSafe l s) else winchSafe l s := by
  have owner : ownsTow l (winchSafe l s) = ownsTow l s := by
    rw [Bool.eq_iff_iff, ownsTow_iff, ownsTow_iff, winchSafe_tow]
  rw [owner, towSafe]

/-- The flag, the attention kind and the notice of a failsafe that affects a unit (R22). -/
def failsafeRaised (l : Link) (units : Byte) (s : State) : State :=
  offer (.failsafe l units) (postAll .failsafe (setPort l { s.ports.get l with failsafeFlag := true } s))

/-- Failsafe is the safe actions and, where a unit is affected, what it raises. -/
theorem failsafe_eq (l : Link) (s : State) : failsafe l s = if anyAffected l s then
      failsafeRaised l (affectedByte (driveAffected l s) (answersFor l .steer s) (answersFor l .winch s)
        (answersFor l .lights s)) (madeSafe l s)
    else madeSafe l s := by
  unfold failsafe
  extract_lets -lift drive steer winch lights s1 s2 s3 s4 s5
  have hs2 : s2 = steeringSafe l s := (steeringSafe_eq l s).symm
  have hs3 : s3 = winchSafe l s := by
    unfold s3
    rw [hs2]
    rfl
  have hs4 : s4 = towSafe l s := by
    unfold s4
    rw [hs3, towSafe_eq]
  have hs5 : s5 = madeSafe l s := by
    unfold s5
    rw [hs4, towSafe_lights]
    rfl
  show (if anyAffected l s then failsafeRaised l (affectedByte drive steer winch lights) s5 else s5) = _
  rw [hs5]

/-! ## What the safe actions leave of each unit -/

theorem zeroed_safeHold_idem (d : Drive) : (d.zeroed .safeHold).zeroed .safeHold = d.zeroed .safeHold := by
  simp [Drive.zeroed, nextBrakeTimer]

theorem winchSafe_drive (l : Link) (s : State) : (winchSafe l s).drive = (driveSafe l s).drive := by
  unfold winchSafe
  split
  · rw [winchStopAction_drive]
    rfl
  · rfl

theorem winchSafe_wheels (l : Link) (s : State) : (winchSafe l s).wheels = (driveSafe l s).wheels := by
  unfold winchSafe
  split
  · rw [winchStopAction_wheels]
    rfl
  · rfl

/-- The drive is zeroed into SAFE_HOLD where it is affected and where the link's tow link ends (R34, R39, R104). -/
theorem madeSafe_drive (l : Link) (s : State) : (madeSafe l s).drive =
    if driveAffected l s = true ∨ ownsTow l s = true then s.drive.zeroed .safeHold else s.drive := by
  have halted : (driveSafe l s).drive = if driveAffected l s then s.drive.zeroed .safeHold else s.drive := by
    unfold driveSafe
    split <;> simp
  show (towSafe l s).drive = _
  unfold towSafe
  by_cases ho : ownsTow l s = true
  · obtain ⟨w, hw, -⟩ := Option.map_eq_some_iff.mp (ownsTow_iff.mp ho)
    rw [if_pos ho, if_pos (.inr ho), endTow_drive_of_some ((winchSafe_tow l s).trans hw), winchSafe_drive, halted]
    split
    · exact zeroed_safeHold_idem _
    · rfl
  · simp only [ho, or_false, winchSafe_drive, halted, if_false, Bool.false_eq_true]

/-- The wheels take the hold request where the drive is halted (R42). -/
theorem madeSafe_wheels (l : Link) (s : State) : (madeSafe l s).wheels =
    if driveAffected l s = true ∨ ownsTow l s = true then s.wheels.map (Channel.holdRequest false) else s.wheels := by
  have halted : (driveSafe l s).wheels =
      if driveAffected l s then s.wheels.map (Channel.holdRequest false) else s.wheels := by
    unfold driveSafe
    split <;> simp
  show (towSafe l s).wheels = _
  unfold towSafe
  by_cases ho : ownsTow l s = true
  · obtain ⟨w, hw, -⟩ := Option.map_eq_some_iff.mp (ownsTow_iff.mp ho)
    rw [if_pos ho, if_pos (.inr ho), endTow_wheels_of_some ((winchSafe_tow l s).trans hw), winchSafe_wheels, halted]
    split
    · exact holdRequests_idem _
    · rfl
  · simp only [ho, or_false, winchSafe_wheels, halted, if_false, Bool.false_eq_true]

theorem madeSafe_steer (l : Link) (s : State) : (madeSafe l s).steer =
    if answersFor l .steer s then steerSafe s.chassis.profile s.steer else s.steer := by
  show (towSafe l s).steer = _
  unfold towSafe winchSafe
  split <;> split <;> simp [steeringSafe]

theorem madeSafe_winch (l : Link) (s : State) : (madeSafe l s).winch =
    { (if answersFor l .winch s then stoppedWinch s.winch else s.winch) with
      tow := if ownsTow l s then none else s.winch.tow } := by
  rw [← winchSafe_winch]
  show (towSafe l s).winch = _
  unfold towSafe
  split
  · exact endTow_winch _ _
  · rw [← winchSafe_tow l s]

/-- The reservations, the last commanders and the attention queues stay (R22). -/
theorem madeSafe_disp (l : Link) (s : State) : ∃ op, (madeSafe l s).disp = { s.disp with winchOp := op } := by
  obtain ⟨-, -, -, hdisp, -⟩ := driveSafe_vehicle l s
  have stopped : ∃ op, (winchSafe l s).disp = { s.disp with winchOp := op } := by
    unfold winchSafe
    split
    · exact ⟨_, (winchStopAction_disp _).trans (by rw [steeringSafe, hdisp])⟩
    · exact ⟨_, hdisp⟩
  show ∃ op, (towSafe l s).disp = _
  unfold towSafe
  split
  · rwa [endTow_disp]
  · exact stopped

theorem madeSafe_portsKept (l : Link) (s : State) : portsKept s (madeSafe l s) := by
  have halted : portsKept s (steeringSafe l s) := by
    show portsKept s (driveSafe l s)
    unfold driveSafe
    split
    · exact haltDrive_portsKept _ _ s
    · exact .refl s
  have stopped : portsKept s (winchSafe l s) := by
    unfold winchSafe
    split
    · exact halted.trans (winchStopAction_portsKept _)
    · exact halted
  show portsKept s (towSafe l s)
  unfold towSafe
  split
  · exact stopped.trans (endTow_portsKept _ _)
  · exact stopped

/-! ## What failsafe leaves -/

theorem failsafe_vehicle_eq (l : Link) (s : State) : (failsafe l s).drive = (madeSafe l s).drive ∧
    (failsafe l s).wheels = (madeSafe l s).wheels ∧ (failsafe l s).steer = (madeSafe l s).steer ∧
    (failsafe l s).winch = (madeSafe l s).winch ∧ (failsafe l s).lights = (madeSafe l s).lights := by
  rw [failsafe_eq]
  split <;> exact ⟨rfl, rfl, rfl, rfl, rfl⟩

theorem failsafe_records (l : Link) (s : State) : (failsafe l s).disp.holders = s.disp.holders ∧
    (failsafe l s).disp.last = s.disp.last ∧
    ∀ m, (failsafe l s).disp.attention.get m =
      if anyAffected l s then postKind .failsafe (s.disp.attention.get m) else s.disp.attention.get m := by
  obtain ⟨op, hdisp⟩ := madeSafe_disp l s
  rw [failsafe_eq]
  split
  · refine ⟨(congrArg DispatcherState.holders hdisp :), (congrArg DispatcherState.last hdisp :), fun m => ?_⟩
    exact (postAll_attention _ _ m).trans (congrArg (fun d => postKind .failsafe (d.attention.get m)) hdisp :)
  · rw [hdisp]
    exact ⟨rfl, rfl, fun m => rfl⟩

theorem failsafeRaised_port (l : Link) (units : Byte) (s : State) :
    portKept { s.ports.get l with failsafeFlag := true } ((failsafeRaised l units s).ports.get l) := by
  have raised := offer_portsKept (.failsafe l units)
    (postAll .failsafe (setPort l { s.ports.get l with failsafeFlag := true } s)) l
  rwa [show (postAll .failsafe (setPort l { s.ports.get l with failsafeFlag := true } s)).ports.get l =
    { s.ports.get l with failsafeFlag := true } from setPort_get_same l _ s] at raised

/-- The link's port keeps its link state and timer; its flag tells whether a unit was affected (R22). -/
theorem failsafe_port {l : Link} {s : State} (h : (s.ports.get l).failsafeFlag = false) :
    portKept { s.ports.get l with failsafeFlag := anyAffected l s } ((failsafe l s).ports.get l) := by
  obtain ⟨hassembly, hbuffer, hslot, hmask, hsilence, hlink, hflag⟩ := madeSafe_portsKept l s l
  rw [failsafe_eq]
  by_cases ha : anyAffected l s = true
  · rw [if_pos ha]
    have raised : portKept { s.ports.get l with failsafeFlag := anyAffected l s }
        { (madeSafe l s).ports.get l with failsafeFlag := true } :=
      ⟨hassembly, hbuffer, hslot, hmask, hsilence, hlink, ha.symm⟩
    exact raised.trans (failsafeRaised_port l _ (madeSafe l s))
  · rw [if_neg ha]
    exact ⟨hassembly, hbuffer, hslot, hmask, hsilence, hlink, (hflag.trans h).trans (Bool.eq_false_iff.mpr ha).symm⟩

/-- Where the drive is affected, the failsafe halts it in SAFE_HOLD and starts no brake timer (R39, R43). -/
theorem driveSafe_eq (l : Link) (s : State) : driveSafe l s =
    if driveAffected l s then handHold false { s with drive := { s.drive with
      t := 0
      b := 0
      bCmd := 0
      state := .safeHold
      brakeTimer := if s.drive.state = .holding then none else s.drive.brakeTimer } }
    else s := by
  simp [driveSafe, haltDrive, Drive.zeroed, nextBrakeTimer]

/-- The winch's stop under failsafe, with the winch that is left written out (R99). -/
theorem winchSafe_eq (l : Link) (s : State) : winchSafe l s =
    if answersFor l .winch s then
      (let stopped : State := { steeringSafe l s with winch := stoppedWinch s.winch }
        if s.winch.state = .move ∨ s.winch.state = .reference then endOp .winch .cancelled stopped else stopped)
    else steeringSafe l s := by
  obtain ⟨-, hwinch, -⟩ := driveSafe_vehicle l s
  have kept : (steeringSafe l s).winch = s.winch := hwinch
  unfold winchSafe
  rw [winchStopAction_eq, kept]

/-! ## The event (R22, R172) -/

/-- The part at a link's silence, before failsafe. -/
def silenced (l : Link) (s : State) : State :=
  setPort l { s.ports.get l with link := .silent, silence := none, failsafeFlag := false } s

theorem silenceTimeout_next {l : Link} {e : Nat} {s : State} (hp : s.powered = true)
    (hlink : (s.ports.get l).link = .active) (ht : timeoutOf s.chassis.profile l ≠ 0)
    (he : (s.ports.get l).silence = some e) (hte : timeoutOf s.chassis.profile l ≤ e) :
    exec (.silenceTimeout l) s = .next (arbitrate (failsafe l (silenced l s))) := by
  have due : silenceDue l s = true := by simp [silenceDue, hlink, ht, he, hte]
  have timed : exec (.silenceTimeout l) s = .next (arbitrate (silenceTimeout l s)) :=
    event_powered (f := silenceTimeout l) hp
  rw [timed, silenceTimeout, if_pos due]
  rfl

/-- Failsafe in its order, with the units it leaves written out. -/
theorem failsafe_ordered (l : Link) (s : State) :
    let t := failsafe l s
    let drive := driveAffected l s
    let steer := answersFor l .steer s
    let winch := answersFor l .winch s
    let lights := answersFor l .lights s
    let s1 := if drive then handHold false { s with drive := { s.drive with
        t := 0
        b := 0
        bCmd := 0
        state := .safeHold
        brakeTimer := if s.drive.state = .holding then none else s.drive.brakeTimer } } else s
    let s2 := { s1 with steer := t.steer }
    let s3 := if winch then
        (let stopped := { s2 with winch := { t.winch with tow := s.winch.tow } }
          if s.winch.state = .move ∨ s.winch.state = .reference then endOp .winch .cancelled stopped else stopped)
      else s2
    let s4 := if s.winch.tow.map TowLink.owner = some l then endTow .failsafe s3 else s3
    let s5 := { s4 with lights := closeLink l s.lights }
    failsafe l s = if drive || steer || winch || lights then
        failsafeRaised l (affectedByte drive steer winch lights) s5
      else s5 := by
  intro t drive steer winch lights s1 s2 s3 s4 s5
  obtain ⟨-, -, hsteer, hwinch, -⟩ := failsafe_vehicle_eq l s
  have hs1 : s1 = driveSafe l s := (driveSafe_eq l s).symm
  have hs2 : s2 = steeringSafe l s := by
    simp only [s2, hs1, t, hsteer, madeSafe_steer]
    rfl
  have hs3 : s3 = winchSafe l s := by
    rw [winchSafe_eq]
    by_cases ha : answersFor l .winch s = true
    · simp only [s3, winch, if_pos ha, hs2, t, hwinch, madeSafe_winch]
      rfl
    · simp only [s3, winch, if_neg ha, hs2]
  have hs4 : s4 = towSafe l s := by
    simp only [s4, hs3, towSafe, ownsTow_iff]
  have hs5 : s5 = madeSafe l s := by
    simp only [s5, hs4]
    rfl
  rw [hs5]
  exact failsafe_eq l s

/-- The silent link's port: its timer is stopped, and its flag tells whether a unit was affected. -/
theorem silenced_port (l : Link) (s : State) :
    portKept { s.ports.get l with link := .silent, silence := none, failsafeFlag := anyAffected l s }
      ((arbitrate (failsafe l (silenced l s))).ports.get l) := by
  have port : (silenced l s).ports.get l =
      { s.ports.get l with link := .silent, silence := none, failsafeFlag := false } := setPort_get_same l _ s
  have kept := failsafe_port (l := l) (s := silenced l s) (by rw [port])
  rw [port] at kept
  exact kept.trans (arbitrate_portsKept _ l)

/-- A winch whose tow record alone is replaced, with the record read back. -/
theorem winch_eq_with_tow {x w : Winch} {o : Option TowLink} (h : x = { w with tow := o }) :
    x = { w with tow := x.tow } := by
  rw [h]

/-- Settles O16: a due timeout is the failsafe of the silenced link, whose effects are read unit by unit. -/
theorem silenceAppliesFailsafe : Obligations.SilenceAppliesFailsafe := by
  intro l e s hp hlink ht he hte hfits
  have next := silenceTimeout_next hp hlink ht he hte
  obtain ⟨hdrive, hwheels, hsteer, hwinch, hlights⟩ := failsafe_vehicle_eq l (silenced l s)
  obtain ⟨hholders, hlast, hattention⟩ := failsafe_records l (silenced l s)
  obtain ⟨-, -, -, -, hsilence, hstate, hflag⟩ := silenced_port l s
  have drive := hdrive.trans (madeSafe_drive l (silenced l s))
  have wheels := hwheels.trans (madeSafe_wheels l (silenced l s))
  have steer := hsteer.trans (madeSafe_steer l (silenced l s))
  have winch := hwinch.trans (madeSafe_winch l (silenced l s))
  have affected (u : UnitId) : answersFor l u (silenced l s) = true ↔ affectedBy l u s := answersFor_iff
  refine ⟨_, next, hstate, hsilence, ?_, fun ha => ?_, fun hn hother => ?_, fun w hw hl => ?_, fun ha h1 => ?_,
    fun h => ?_, fun ha => ?_, fun hn => ?_, hlights, hholders, hlast, by simp [silenced], by simp [silenced],
    by simp [silenced], by simp [silenced, clockKept], fun m => ?_,
    driveAffected l s, answersFor l .steer s, answersFor l .winch s, answersFor l .lights s, driveAffected_iff,
    answersFor_iff, answersFor_iff, answersFor_iff, next.trans ?_⟩
  · rw [hflag]
    exact anyAffected_iff
  · have halted : driveAffected l (silenced l s) = true := driveAffected_iff.mpr ha
    rw [if_pos (.inl halted)] at drive wheels
    exact ⟨(congrArg Drive.state drive :), (congrArg Drive.t drive :), (congrArg Drive.b drive :),
      (congrArg Drive.bCmd drive :), fun w => (congrArg (·.get w) wheels).trans (PerWheel.get_map _ _ w)⟩
  · have left : ¬(driveAffected l (silenced l s) = true ∨ ownsTow l (silenced l s) = true) := by
      rintro (h | h)
      · exact hn (driveAffected_iff.mp h)
      · obtain ⟨w, hw, hl⟩ := Option.map_eq_some_iff.mp (ownsTow_iff.mp h)
        exact hother w hw hl
    rw [if_neg left] at drive wheels
    exact ⟨drive, wheels⟩
  · have owns : ownsTow l (silenced l s) = true := ownsTow_iff.mpr (Option.map_eq_some_iff.mpr ⟨w, hw, hl⟩)
    rw [if_pos (.inr owns)] at drive
    rw [if_pos owns] at winch
    exact ⟨(congrArg Winch.tow winch :), (congrArg Drive.state drive :), (congrArg Drive.b drive :)⟩
  · rw [if_pos ((affected _).mpr ha)] at steer
    exact steer.trans (if_pos h1)
  · by_cases ha : affectedBy l .steer s
    · rw [if_pos ((affected _).mpr ha)] at steer
      exact steer.trans (if_neg (h.resolve_left (not_not_intro ha)))
    · rw [if_neg ((affected _).not.mpr ha)] at steer
      exact steer
  · rw [if_pos ((affected _).mpr ha)] at winch
    exact winch_eq_with_tow winch
  · have left : ¬ownsTow l (silenced l s) = true := fun h =>
      hn (answersFor_iff.mp (affected_of_ownsTow (s := s) hfits h))
    rw [if_neg ((affected _).not.mpr hn), if_neg left] at winch
    exact winch
  · rw [hflag]
    exact hattention m
  · refine congrArg (fun x => Host.Outcome.next (arbitrate x)) ?_
    exact failsafe_ordered l (silenced l s)

end Sys2Proof.Machine.Stops
end

section
/-! LINK RESET: the tow link's end, the operations and records of the link, and its port (R21, R104, R148, R174). -/

namespace Sys2Proof.Machine.LinkResets

open MotionGeometry

/-! ## The end of the link's tow link (R21, R104) -/

/-- Notices are offered whatever the dispatcher's records. -/
theorem offerList_setDisp (ns : List Notice) (d : DispatcherState) (s : State) :
    offerList ns (setDisp d s) = setDisp d (offerList ns s) := by
  induction ns generalizing s with
  | nil => rfl
  | cons n ns ih => exact ih (offer n s)

/-- A halt of the drive hands its hold request whatever the dispatcher's records. -/
theorem haltDrive_setDisp (st : DriveState) (release : Bool) (d : DispatcherState) (s : State) :
    haltDrive st release (setDisp d s) = setDisp d (haltDrive st release s) := by
  simp only [haltDrive, handHold_eq]
  exact offerList_setDisp (stallOffs s) d
    { s with drive := s.drive.zeroed st, wheels := s.wheels.map (Channel.holdRequest release) }

/-- The end of a tow link neither looks at the dispatcher's records nor changes them. -/
theorem endTow_setDisp (c : TowCause) (d : DispatcherState) (s : State) :
    endTow c (setDisp d s) = setDisp d (endTow c s) := by
  cases hw : s.winch.tow with
  | none => rw [endTow_of_none hw, endTow_of_none (s := setDisp d s) hw]
  | some w =>
    rw [endTow_of_some hw, endTow_of_some (s := setDisp d s) hw]
    exact haltDrive_setDisp c.driveState false d (offer (.winch .towEnd c.code) (setWinch { s.winch with tow := none } s))

/-- The part with the link's tow link ended. -/
def towDropped (l : Link) (s : State) : State :=
  if s.winch.tow.map TowLink.owner = some l then endTow .linkReset s else s

/-- The first step of LINK RESET: the owner of a tow link holds WINCH, so the link's tow link ends. -/
theorem releaseLink_eq {l : Link} {s : State} (h : towFits s) :
    releaseLink l s = setDisp { s.disp with holders := s.disp.holders.releaseAll l } (towDropped l s) := by
  have own : s.disp.holders.winch = some l ∧ ownsTow l s = true ↔ s.winch.tow.map TowLink.owner = some l := by
    rw [ownsTow_iff, and_iff_right_iff_imp]
    intro ho
    obtain ⟨w, hw, rfl⟩ := Option.map_eq_some_iff.mp ho
    obtain ⟨-, holder, -⟩ := (towFits_some hw).mp h
    exact holder
  simp only [releaseLink, towDropped, own, endTow_setDisp]
  split <;> rfl

/-! ## The operations of the link (R21, R148) -/

/-- The winch after the loss of its operation: a MOVE or REFERENCE of the link goes to IDLE. -/
def winchDropped (l : Link) (op : Option LongOp) (w : Winch) : Winch :=
  if op.map LongOp.owner = some (some l) then w.toIdle else w

/-- The BASE record after the loss of its transition's owner (R148). -/
def baseDropped (l : Link) (op : Option LongOp) (b : Base) : Base :=
  if op.map LongOp.owner = some (some l) then dropTransition b else b

theorem opOwnedBy_iff {l : Link} {op : Option LongOp} :
    opOwnedBy l op = true ↔ op.map LongOp.owner = some (some l) := by
  cases op <;> simp [opOwnedBy]

/-- An operation of the link leaves the slot, another stays. -/
theorem filter_owner (l : Link) (op : Option LongOp) : op.filter (fun o => decide (o.owner ≠ some l)) =
    if op.map LongOp.owner = some (some l) then none else op := by
  cases op with
  | none => rfl
  | some o => by_cases h : o.owner = some l <;> simp [Option.filter, h]

/-- An operation of the link loses its owner, another keeps it. -/
theorem map_disowned (l : Link) (op : Option LongOp) :
    op.map (fun o => if o.owner = some l then { o with owner := none } else o) =
      if op.map LongOp.owner = some (some l) then op.map fun o => { o with owner := none } else op := by
  cases op with
  | none => rfl
  | some o => by_cases h : o.owner = some l <;> simp [h]

theorem dropWinchOp_eq (l : Link) (s : State) : dropWinchOp l s = { s with
    disp := { s.disp with winchOp := s.disp.winchOp.filter (fun o => decide (o.owner ≠ some l)) }
    winch := winchDropped l s.disp.winchOp s.winch } := by
  rw [filter_owner]
  simp only [dropWinchOp, opOwnedBy_iff, winchDropped]
  split <;> rfl

theorem dropLightsOp_eq (l : Link) (s : State) : dropLightsOp l s = { s with
    disp := { s.disp with lightsOp := s.disp.lightsOp.filter (fun o => decide (o.owner ≠ some l)) }
    lights := { s.lights with base := baseDropped l s.disp.lightsOp s.lights.base } } := by
  rw [filter_owner]
  simp only [dropLightsOp, opOwnedBy_iff, baseDropped]
  split <;> rfl

/-- A commit of the link goes on without an owner. -/
theorem disownCommit_eq (l : Link) (s : State) : disownCommit l s = { s with
    disp := { s.disp with
      chassisOp := s.disp.chassisOp.map fun o => if o.owner = some l then { o with owner := none } else o } } := by
  rw [map_disowned]
  simp only [disownCommit, opOwnedBy_iff]
  split <;> rfl

/-! ## The records and the port (R21) -/

/-- The dispatcher's records after the reset of a link. -/
def recordsReset (l : Link) (d : DispatcherState) : DispatcherState where
  holders := d.holders.releaseAll l
  last := d.last.forget l
  attention := d.attention.set l [.linkReset]
  sense := d.sense.set l .clear
  winchOp := d.winchOp.filter (fun o => decide (o.owner ≠ some l))
  lightsOp := d.lightsOp.filter (fun o => decide (o.owner ≠ some l))
  chassisOp := d.chassisOp.map (fun o => if o.owner = some l then { o with owner := none } else o)

/-- The part after the reset of a link, but for the link's port. -/
def unitsReset (l : Link) (s : State) : State :=
  { towDropped l s with
    disp := recordsReset l s.disp
    winch := winchDropped l s.disp.winchOp (towDropped l s).winch
    lights := closeLink l { s.lights with base := baseDropped l s.disp.lightsOp s.lights.base } }

/-- LINK RESET as the tow link's end, the records and units that it leaves, and the port. -/
theorem linkResetAll_eq {l : Link} {s : State} (h : towFits s) :
    linkResetAll l s = setPort l ((towDropped l s).ports.get l).linkReset (unitsReset l s) := by
  have lights : (towDropped l s).lights = s.lights := by
    unfold towDropped
    split <;> simp
  simp only [linkResetAll, releaseLink_eq h, disownCommit_eq, dropLightsOp_eq, dropWinchOp_eq, setDisp, lights]
  rfl

theorem linkReset_answers {l : Link} {t u : Byte} {b : List Byte} {s : State}
    (h : admitted .linkReset l t u b s = true) :
    exec (.linkReset l t u b) s = .next (answered l t .good [] (linkResetAll l (taken l ⟨t, u, 0x07, b⟩ s))) :=
  exec_given rfl h

/-! ## What LINK RESET leaves of each unit -/

/-- The open-by field of the link is cleared, record by record (R138). -/
theorem closeLink_table (l : Link) (x : Lights) (i : Fin 16) : (closeLink l x).table[i] =
    if x.table[i].openBy = some l then { x.table[i] with openBy := none } else x.table[i] := by
  simp only [closeLink, mapOpen, Fin.getElem_fin, vecMap_get]
  split <;> rfl

/-- The drive is zeroed into HOLDING where the link's tow link ends; TOWING starts no brake timer (R34, R43, R104). -/
theorem towDropped_drive {l : Link} {s : State} (h : towFits s) : (towDropped l s).drive =
    if s.winch.tow.map TowLink.owner = some l then { s.drive with t := 0, b := 0, bCmd := 0, state := .holding }
    else s.drive := by
  unfold towDropped
  split
  · next ho =>
    obtain ⟨w, hw, -⟩ := Option.map_eq_some_iff.mp ho
    obtain ⟨towing, -⟩ := (towFits_some hw).mp h
    rw [endTow_drive_of_some hw, TowCause.driveState, zeroed_holding, towing]
    rfl
  · rfl

theorem towDropped_wheels (l : Link) (s : State) : (towDropped l s).wheels =
    if s.winch.tow.map TowLink.owner = some l then s.wheels.map (Channel.holdRequest false) else s.wheels := by
  unfold towDropped
  split
  · next ho =>
    obtain ⟨w, hw, -⟩ := Option.map_eq_some_iff.mp ho
    exact endTow_wheels_of_some hw
  · rfl

/-- The link's tow link goes, another stays. -/
theorem filter_tow (l : Link) (tow : Option TowLink) : tow.filter (fun w => decide (w.owner ≠ l)) =
    if tow.map TowLink.owner = some l then none else tow := by
  cases tow with
  | none => rfl
  | some w => by_cases h : w.owner = l <;> simp [Option.filter, h]

theorem towDropped_winch (l : Link) (s : State) : (towDropped l s).winch =
    { s.winch with tow := s.winch.tow.filter fun w => decide (w.owner ≠ l) } := by
  rw [filter_tow]
  unfold towDropped
  split
  · exact endTow_winch _ s
  · rfl

theorem towDropped_portsKept (l : Link) (s : State) : portsKept s (towDropped l s) := by
  unfold towDropped
  split
  · exact endTow_portsKept _ s
  · exact .refl s

theorem towDropped_frame (l : Link) (s : State) : (towDropped l s).steer = s.steer ∧
    (towDropped l s).supply = s.supply ∧ (towDropped l s).alloc = s.alloc ∧ (towDropped l s).chassis = s.chassis ∧
    clockKept s (towDropped l s) := by
  unfold towDropped
  split <;> simp [clockKept]

theorem linkReset_portKept {q r : Port} (h : portKept q r) : portKept { q with mask := 0 } r.linkReset := by
  obtain ⟨hassembly, hbuffer, hslot, -, hsilence, hlink, hflag⟩ := h
  exact ⟨hassembly, hbuffer, hslot, rfl, hsilence, hlink, hflag⟩

/-- A port that LINK RESET emptied stays so: no notice was offered after it, and the answer's status lowers the flags. -/
theorem answered_linkReset (l : Link) (tag : Byte) (code : StatusCode) (reply : List Byte) (q : Port) (s : State) :
    let n := answered l tag code reply (setPort l q.linkReset s)
    ((n.ports.get l).notices = [] ∧ (n.ports.get l).mask = 0 ∧ (n.ports.get l).framesLost = false ∧
      (n.ports.get l).noticesLost = false) ∧ portKept q.linkReset (n.ports.get l) := by
  intro n
  have port : n.ports.get l =
      Port.startNext s.supply.stage { q.linkReset with status := some ⟨tag, code, reply⟩ } := by
    simp only [n, answered, arbitrate_get, placeStatus_get, if_pos, setPort_get_same, Port.endEvent]
    rw [Port.queueOffered_nil _ _ rfl]
    exact Transmission.arbitrate_of_unraced (.inr (.inr rfl)) _ _
  rw [port]
  have placed : portKept q.linkReset { q.linkReset with status := some ⟨tag, code, reply⟩ } := .refl _
  refine ⟨?_, placed.trans (Port.startNext_kept _ _)⟩
  cases ht : q.tx with
  | some f =>
    rw [Transmission.startNext_of_busy (q := { q.linkReset with status := some ⟨tag, code, reply⟩ }) ht]
    exact ⟨rfl, rfl, rfl, rfl⟩
  | none =>
    rw [Transmission.startNext_of_status (q := { q.linkReset with status := some ⟨tag, code, reply⟩ }) ht rfl]
    exact ⟨rfl, rfl, rfl, rfl⟩

/-- Settles O19: the reset link's tow link, records, operations and port, each read off `linkResetAll_eq`. -/
theorem linkResetClearsTheLinksRecords : Obligations.LinkResetClearsTheLinksRecords := by
  intro l t u b s h hfits r
  have rfits : towFits r := (VehicleKept.setPort fun _ => rfl).towFits hfits
  have next := linkReset_answers h
  rw [linkResetAll_eq rfits] at next
  obtain ⟨steer, supply, alloc, chassis, clock⟩ := towDropped_frame l r
  have drive := towDropped_drive (l := l) rfits
  have wheels := towDropped_wheels l r
  obtain ⟨emptied, kept⟩ := answered_linkReset l t .good [] ((towDropped l r).ports.get l) (unitsReset l r)
  refine ⟨_, next, fun x => Holders.get_releaseAll _ l x, fun x => LastCommanders.get_forget _ l x, rfl, emptied,
    (linkReset_portKept (towDropped_portsKept l r l)).trans kept, fun m hm => ?_, fun ⟨w, hw, hl⟩ => ?_, fun hother => ?_,
    ?_, ?_, fun i => ?_, steer, supply, alloc, chassis, clock, ?_⟩
  · refine (taken_portKept hm).trans ((towDropped_portsKept l r m).trans ?_)
    refine portKept.trans ?_ (answered_portsKept l t .good [] _ m)
    rw [setPort_get_other _ _ hm]
    exact .refl _
  · have owns : r.winch.tow.map TowLink.owner = some l := Option.map_eq_some_iff.mpr ⟨w, hw, hl⟩
    rw [if_pos owns] at drive wheels
    exact ⟨drive, fun i => (congrArg (·.get i) wheels).trans (PerWheel.get_map _ _ i)⟩
  · have left : r.winch.tow.map TowLink.owner ≠ some l := fun ho => by
      obtain ⟨w, hw, hl⟩ := Option.map_eq_some_iff.mp ho
      exact hother w hw hl
    rw [if_neg left] at drive wheels
    exact ⟨drive, wheels⟩
  · intro tow
    show winchDropped l r.disp.winchOp (towDropped l r).winch = _
    rw [towDropped_winch]
    rfl
  · rfl
  · exact closeLink_table l _ i
  · rfl

end Sys2Proof.Machine.LinkResets
end
